-- ==== Sys2Proof/Word.lean ====
section
/-! DEFINITION. The words of the core: the 16-bit command word, the 128-bit buses and result registers, the
8-bit shift distance (00_scope.md R6, 10_state.md R32 and R33), the two names a mnemonic is made of (the
operation and the width) and the three values that every operation returns. -/

namespace Sys2Proof

/-- A command word, `cmd_word[15:0]` (30_encoding.md R80). -/
abbrev CmdWord := BitVec 16

/-- An operand bus or a result register (10_state.md R32, R36, R37); bit 0 is the least significant (R63). -/
abbrev Bus := BitVec 128

/-- A shift distance, an unsigned 8-bit value at every width (30_encoding.md R85). -/
abbrev Distance := BitVec 8

/-- The eleven operations of the opcode field (30_encoding.md R82). -/
inductive Op where
  | cmp | not | and | or | xor | shl | shr | add | sub | mul | divmod
  deriving DecidableEq, Repr

/-- The five widths of the width code (30_encoding.md R81). -/
inductive Width where
  | w8 | w16 | w32 | w64 | w128
  deriving DecidableEq, Repr

/-- N, the number of bits a width selects (30_encoding.md R81). -/
def Width.bits : Width → Nat
  | .w8 => 8
  | .w16 => 16
  | .w32 => 32
  | .w64 => 64
  | .w128 => 128

/-- What an operation of width `N` returns: two `N`-bit vectors and one bit, `(lo, hi, cf)`
(40_engine.md R100). -/
structure Triple (N : Nat) where
  lo : BitVec N
  hi : BitVec N
  cf : Bool
  deriving DecidableEq, Repr

end Sys2Proof
end

