-- ==== Sys2Proof/Config.lean ====
section
/-! DEFINITION. What the spec leaves to the implementation or to the host: the latency (an OPEN parameter,
40_engine.md R109), what the host drives on the input ports where the state lists nothing more (10_state.md R32), and
the values of the three registers that a reset edge leaves unspecified (10_state.md R48). Each is an opaque constant, so
no proof can see a value of it. -/

namespace Sys2Proof

/-- One sample of the input ports, taken at an edge (10_state.md R32). Every input is a 0 or a 1 at every edge
(92_eei_decisions.md D32). -/
structure Inputs where
  /-- `rst`: synchronous reset, active high (70_reset_and_hazards.md R230). -/
  rst : Bool
  /-- `cmd_valid`: the host presents a command. -/
  cmdValid : Bool
  /-- `cmd_word` (30_encoding.md R80). -/
  cmdWord : CmdWord
  /-- `opa`: the operand A bus. -/
  opa : Bus
  /-- `opb`: the operand B bus; for SHL and SHR it carries the distance. -/
  opb : Bus
  deriving DecidableEq, Repr, Inhabited

/-- A latency function, from a command word and its two operand buses to a number of edges
(40_engine.md R109). -/
abbrev Latency := CmdWord → Bus → Bus → Nat

namespace Config

/-- The number of edges beyond the first that a command takes (free value, log entry 2). -/
opaque extraEdges : CmdWord → Bus → Bus → Nat

/-- `LAT(cmd, a, b)`, an open parameter that is a natural number ≥ 1 (40_engine.md R109): written as one more than a
free natural number, which is every function ≥ 1 and nothing else. -/
def LAT : Latency := fun cmd a b => extraEdges cmd a b + 1

/-- What the host drives at edge number `k` where the state lists no further sample (free value, log entry 1). -/
opaque hostDrive : Nat → Inputs

/-- CMD_L after the reset edge number `k` (10_state.md R48: unspecified; free value, log entry 4). -/
opaque freeCmdL : Nat → CmdWord

/-- A_L after the reset edge number `k` (10_state.md R48: unspecified; free value, log entry 4). -/
opaque freeAL : Nat → Bus

/-- B_L after the reset edge number `k` (10_state.md R48: unspecified; free value, log entry 4). -/
opaque freeBL : Nat → Bus

end Config

end Sys2Proof
end

