-- ==== Sys2Proof/Syntax.lean ====
section
/-! DEFINITION. The commands: one constructor per row of spec/opcode_table.json (55 legal command words, 30_encoding.md
R88), and the two parts of each mnemonic, the operation and the width. -/

namespace Sys2Proof

/-- A command, by its mnemonic `MNEMONIC.Wn` (30_encoding.md R89). The command word carries no operand bits, no
immediates and no register numbers (30_encoding.md R86), so no constructor has an argument: the operands come from
the buses. -/
inductive Instr where
  | cmpW8 | cmpW16 | cmpW32 | cmpW64 | cmpW128
  | notW8 | notW16 | notW32 | notW64 | notW128
  | andW8 | andW16 | andW32 | andW64 | andW128
  | orW8 | orW16 | orW32 | orW64 | orW128
  | xorW8 | xorW16 | xorW32 | xorW64 | xorW128
  | shlW8 | shlW16 | shlW32 | shlW64 | shlW128
  | shrW8 | shrW16 | shrW32 | shrW64 | shrW128
  | addW8 | addW16 | addW32 | addW64 | addW128
  | subW8 | subW16 | subW32 | subW64 | subW128
  | mulW8 | mulW16 | mulW32 | mulW64 | mulW128
  | divmodW8 | divmodW16 | divmodW32 | divmodW64 | divmodW128
  deriving DecidableEq, Repr

/-- The operation a mnemonic names (30_encoding.md R82). -/
def Instr.op : Instr → Op
  | .cmpW8 | .cmpW16 | .cmpW32 | .cmpW64 | .cmpW128 => .cmp
  | .notW8 | .notW16 | .notW32 | .notW64 | .notW128 => .not
  | .andW8 | .andW16 | .andW32 | .andW64 | .andW128 => .and
  | .orW8 | .orW16 | .orW32 | .orW64 | .orW128 => .or
  | .xorW8 | .xorW16 | .xorW32 | .xorW64 | .xorW128 => .xor
  | .shlW8 | .shlW16 | .shlW32 | .shlW64 | .shlW128 => .shl
  | .shrW8 | .shrW16 | .shrW32 | .shrW64 | .shrW128 => .shr
  | .addW8 | .addW16 | .addW32 | .addW64 | .addW128 => .add
  | .subW8 | .subW16 | .subW32 | .subW64 | .subW128 => .sub
  | .mulW8 | .mulW16 | .mulW32 | .mulW64 | .mulW128 => .mul
  | .divmodW8 | .divmodW16 | .divmodW32 | .divmodW64 | .divmodW128 => .divmod

/-- The width a mnemonic's suffix names (30_encoding.md R81). -/
def Instr.width : Instr → Width
  | .cmpW8 | .notW8 | .andW8 | .orW8 | .xorW8 | .shlW8 | .shrW8 | .addW8 | .subW8 | .mulW8 | .divmodW8
    => .w8
  | .cmpW16 | .notW16 | .andW16 | .orW16 | .xorW16 | .shlW16 | .shrW16 | .addW16 | .subW16 | .mulW16 | .divmodW16
    => .w16
  | .cmpW32 | .notW32 | .andW32 | .orW32 | .xorW32 | .shlW32 | .shrW32 | .addW32 | .subW32 | .mulW32 | .divmodW32
    => .w32
  | .cmpW64 | .notW64 | .andW64 | .orW64 | .xorW64 | .shlW64 | .shrW64 | .addW64 | .subW64 | .mulW64 | .divmodW64
    => .w64
  | .cmpW128 | .notW128 | .andW128 | .orW128 | .xorW128 | .shlW128 | .shrW128 | .addW128 | .subW128 | .mulW128 | .divmodW128
    => .w128

/-- The mnemonic as spec/opcode_table.json spells it (30_encoding.md R81, R82 and R89). -/
def Instr.mnemonic (i : Instr) : String :=
  (match i.op with
    | .cmp => "CMP" | .not => "NOT" | .and => "AND" | .or => "OR" | .xor => "XOR" | .shl => "SHL" | .shr => "SHR"
    | .add => "ADD" | .sub => "SUB" | .mul => "MUL" | .divmod => "DIVMOD")
  ++ (match i.width with
    | .w8 => ".W8" | .w16 => ".W16" | .w32 => ".W32" | .w64 => ".W64" | .w128 => ".W128")

end Sys2Proof
end

