-- ==== Sys2Proof/WellFormed.lean ====
section
/-! DEFINITION. Which written commands are well formed (30_encoding.md R89). A mnemonic alone is always well formed,
since the command word carries no operand field that could be out of range (R86); what can be ill formed is a command
written with its operand values. -/

namespace Sys2Proof

/-- A command as it is written, `MNEMONIC.Wn a, b`, with the values of its operands (30_encoding.md R89). For NOT, which
takes one operand, `b` is the value the assembler drives on `opb`. -/
structure Command where
  instr : Instr
  a : Nat
  b : Nat
  deriving DecidableEq, Repr

/-- A literal fits its width: one that is wider is an assembler error, never truncated (30_encoding.md R89). -/
def literalFits (n v : Nat) : Bool := decide (v < 2 ^ n)

/-- Operand `a` fits the width of the command. -/
def Command.aFits (c : Command) : Bool := literalFits c.instr.width.bits c.a

/-- Operand `b` fits: a shift's second operand is an 8-bit distance at every width, NOT's `opb` is driven with 0, and
every other command's second operand has the command's width (30_encoding.md R85, R89). -/
def Command.bFits (c : Command) : Bool :=
  match c.instr.op with
  | .not => decide (c.b = 0)
  | .shl | .shr => literalFits 8 c.b
  | .cmp | .and | .or | .xor | .add | .sub | .mul | .divmod => literalFits c.instr.width.bits c.b

/-- The written command is well formed (30_encoding.md R89). -/
def Command.wellFormed (c : Command) : Bool := c.aFits && c.bFits

end Sys2Proof
end

