-- ==== Sys2Proof/Decode.lean ====
section
/-! DEFINITION. The decoder of the command word (30_encoding.md R80 to R83), total on every 16-bit word and rejecting by
name, and after it the encoder, which is the word table of 30_encoding.md R88. A command word is one 16-bit value
sampled at one edge, and the core has no byte order (20_memory.md R65), so there are no bytes to lay out. -/

namespace Sys2Proof

/-- Field W, the width code, bits [2:0] (30_encoding.md R80). -/
def fieldW (w : CmdWord) : BitVec 3 := w.extractLsb' 0 3

/-- Field RSV0, bit [3], reserved, must be 0 (30_encoding.md R80). -/
def fieldRsv0 (w : CmdWord) : BitVec 1 := w.extractLsb' 3 1

/-- Field OP, the opcode, bits [7:4] (30_encoding.md R80). -/
def fieldOp (w : CmdWord) : BitVec 4 := w.extractLsb' 4 4

/-- Field RSV1, bits [15:8], reserved, must be 0 (30_encoding.md R80). -/
def fieldRsv1 (w : CmdWord) : BitVec 8 := w.extractLsb' 8 8

/-- `legal(w)`, the four conditions of 30_encoding.md R83. -/
def legal (w : CmdWord) : Bool :=
  decide (fieldRsv1 w = 0) && decide (fieldRsv0 w = 0)
    && (decide (1 ≤ (fieldOp w).toNat) && decide ((fieldOp w).toNat ≤ 0xB)) && decide ((fieldW w).toNat ≤ 4)

/-- The operation an opcode names; 0x0 and 0xC to 0xF are reserved (30_encoding.md R82). -/
def decodeOp (op : BitVec 4) : Option Op :=
  match op.toNat with
  | 0x1 => some .cmp
  | 0x2 => some .not
  | 0x3 => some .and
  | 0x4 => some .or
  | 0x5 => some .xor
  | 0x6 => some .shl
  | 0x7 => some .shr
  | 0x8 => some .add
  | 0x9 => some .sub
  | 0xA => some .mul
  | 0xB => some .divmod
  | _ => none

/-- The width a width code selects; 5, 6 and 7 are reserved (30_encoding.md R81). -/
def decodeWidth (w : BitVec 3) : Option Width :=
  match w.toNat with
  | 0 => some .w8
  | 1 => some .w16
  | 2 => some .w32
  | 3 => some .w64
  | 4 => some .w128
  | _ => none

/-- The command of an operation and a width: every operation exists at every width (00_scope.md R2). -/
def instrOf : Op → Width → Instr
  | .cmp, .w8 => .cmpW8
  | .cmp, .w16 => .cmpW16
  | .cmp, .w32 => .cmpW32
  | .cmp, .w64 => .cmpW64
  | .cmp, .w128 => .cmpW128
  | .not, .w8 => .notW8
  | .not, .w16 => .notW16
  | .not, .w32 => .notW32
  | .not, .w64 => .notW64
  | .not, .w128 => .notW128
  | .and, .w8 => .andW8
  | .and, .w16 => .andW16
  | .and, .w32 => .andW32
  | .and, .w64 => .andW64
  | .and, .w128 => .andW128
  | .or, .w8 => .orW8
  | .or, .w16 => .orW16
  | .or, .w32 => .orW32
  | .or, .w64 => .orW64
  | .or, .w128 => .orW128
  | .xor, .w8 => .xorW8
  | .xor, .w16 => .xorW16
  | .xor, .w32 => .xorW32
  | .xor, .w64 => .xorW64
  | .xor, .w128 => .xorW128
  | .shl, .w8 => .shlW8
  | .shl, .w16 => .shlW16
  | .shl, .w32 => .shlW32
  | .shl, .w64 => .shlW64
  | .shl, .w128 => .shlW128
  | .shr, .w8 => .shrW8
  | .shr, .w16 => .shrW16
  | .shr, .w32 => .shrW32
  | .shr, .w64 => .shrW64
  | .shr, .w128 => .shrW128
  | .add, .w8 => .addW8
  | .add, .w16 => .addW16
  | .add, .w32 => .addW32
  | .add, .w64 => .addW64
  | .add, .w128 => .addW128
  | .sub, .w8 => .subW8
  | .sub, .w16 => .subW16
  | .sub, .w32 => .subW32
  | .sub, .w64 => .subW64
  | .sub, .w128 => .subW128
  | .mul, .w8 => .mulW8
  | .mul, .w16 => .mulW16
  | .mul, .w32 => .mulW32
  | .mul, .w64 => .mulW64
  | .mul, .w128 => .mulW128
  | .divmod, .w8 => .divmodW8
  | .divmod, .w16 => .divmodW16
  | .divmod, .w32 => .divmodW32
  | .divmod, .w64 => .divmodW64
  | .divmod, .w128 => .divmodW128

/-- Why a word names no command (30_encoding.md R83): the first condition that it fails, in the order the fields are
tested here. The core itself reports every one of them as ILL (60_exceptions.md R202). -/
inductive Illegal where
  /-- RSV1, bits [15:8], is not 0. -/
  | rsv1NotZero
  /-- RSV0, bit [3], is not 0. -/
  | rsv0NotZero
  /-- OP is 0x0 or 0xC to 0xF. -/
  | reservedOpcode
  /-- W is 5, 6 or 7. -/
  | reservedWidth
  deriving DecidableEq, Repr

/-- The command a word names, or why it names none (30_encoding.md R80 to R83). -/
def decode (w : CmdWord) : Except Illegal Instr :=
  if fieldRsv1 w ≠ 0 then .error .rsv1NotZero
  else if fieldRsv0 w ≠ 0 then .error .rsv0NotZero
  else
    match decodeOp (fieldOp w), decodeWidth (fieldW w) with
    | none, _ => .error .reservedOpcode
    | some _, none => .error .reservedWidth
    | some op, some n => .ok (instrOf op n)

/-- The same, without the reason. -/
def decode? (w : CmdWord) : Option Instr :=
  match decode w with
  | .ok i => some i
  | .error _ => none

/-- The opcode of an operation (30_encoding.md R82). -/
def opcodeOf : Op → BitVec 4
  | .cmp => 0x1
  | .not => 0x2
  | .and => 0x3
  | .or => 0x4
  | .xor => 0x5
  | .shl => 0x6
  | .shr => 0x7
  | .add => 0x8
  | .sub => 0x9
  | .mul => 0xA
  | .divmod => 0xB

/-- The width code of a width (30_encoding.md R81). -/
def widthCodeOf : Width → BitVec 3
  | .w8 => 0
  | .w16 => 1
  | .w32 => 2
  | .w64 => 3
  | .w128 => 4

/-- The word of an operation and a width, put together from its four fields (30_encoding.md R80): RSV1, OP, RSV0, W. -/
def wordOf (op : Op) (n : Width) : CmdWord := (0 : BitVec 8) ++ opcodeOf op ++ (0 : BitVec 1) ++ widthCodeOf n

/-- The encoder: the table of the 55 legal words (30_encoding.md R88), word by word. -/
def encode : Instr → CmdWord
  | .cmpW8 => 0x0010
  | .cmpW16 => 0x0011
  | .cmpW32 => 0x0012
  | .cmpW64 => 0x0013
  | .cmpW128 => 0x0014
  | .notW8 => 0x0020
  | .notW16 => 0x0021
  | .notW32 => 0x0022
  | .notW64 => 0x0023
  | .notW128 => 0x0024
  | .andW8 => 0x0030
  | .andW16 => 0x0031
  | .andW32 => 0x0032
  | .andW64 => 0x0033
  | .andW128 => 0x0034
  | .orW8 => 0x0040
  | .orW16 => 0x0041
  | .orW32 => 0x0042
  | .orW64 => 0x0043
  | .orW128 => 0x0044
  | .xorW8 => 0x0050
  | .xorW16 => 0x0051
  | .xorW32 => 0x0052
  | .xorW64 => 0x0053
  | .xorW128 => 0x0054
  | .shlW8 => 0x0060
  | .shlW16 => 0x0061
  | .shlW32 => 0x0062
  | .shlW64 => 0x0063
  | .shlW128 => 0x0064
  | .shrW8 => 0x0070
  | .shrW16 => 0x0071
  | .shrW32 => 0x0072
  | .shrW64 => 0x0073
  | .shrW128 => 0x0074
  | .addW8 => 0x0080
  | .addW16 => 0x0081
  | .addW32 => 0x0082
  | .addW64 => 0x0083
  | .addW128 => 0x0084
  | .subW8 => 0x0090
  | .subW16 => 0x0091
  | .subW32 => 0x0092
  | .subW64 => 0x0093
  | .subW128 => 0x0094
  | .mulW8 => 0x00A0
  | .mulW16 => 0x00A1
  | .mulW32 => 0x00A2
  | .mulW64 => 0x00A3
  | .mulW128 => 0x00A4
  | .divmodW8 => 0x00B0
  | .divmodW16 => 0x00B1
  | .divmodW32 => 0x00B2
  | .divmodW64 => 0x00B3
  | .divmodW128 => 0x00B4

/-- What the decoder reads from an instruction of `nbits` bits numbered as spec/opcode_table.json numbers them. Every
command word is 16 bits (30_encoding.md R87): bits above `nbits` are 0, and a longer instruction does not exist. -/
def decodeTableWord (nbits w : Nat) : Option Instr :=
  if nbits ≤ 16 then decode? (BitVec.ofNat 16 (w % 2 ^ nbits)) else none

end Sys2Proof
end

