-- ==== Sys2Proof/Machine/State.lean ====
section
/-! DEFINITION. The state of the core: every register of 10_state.md R46, and beside them the model's own three fields
(whether the core has been reset, the samples the host has yet to drive, the number of the next edge). No memory, no
register file and no program counter: the core has none (10_state.md R30, R31, R43). -/

namespace Sys2Proof.Machine

/-- The state. The first ten fields are the record of 10_state.md R46; the last three are the model's own. -/
structure State where
  /-- BUSY: a command is in flight (10_state.md R34). -/
  busy : Bool
  /-- DONE: a command completed at the last edge (10_state.md R35). -/
  done : Bool
  /-- RES_LO, the low result register (10_state.md R36). -/
  resLo : Bus
  /-- RES_HI, the high result register (10_state.md R37). -/
  resHi : Bus
  /-- CF, the carry/borrow flag (10_state.md R38). -/
  cf : Bool
  /-- ERR, the error code of the last completed command (10_state.md R39). -/
  err : BitVec 2
  /-- CMD_L, the latched command word (10_state.md R40). -/
  cmdL : CmdWord
  /-- A_L, the latched operand A bus (10_state.md R40). -/
  aL : Bus
  /-- B_L, the latched operand B bus (10_state.md R40). -/
  bL : Bus
  /-- CNT, the number of edges still to go, a natural number (10_state.md R41). -/
  cnt : Nat
  /-- The model's own: an edge with `rst = 1` has been seen since power-up (10_state.md R49; log entry 3). -/
  live : Bool
  /-- The model's own: the samples of the input ports at the coming edges, the next first (10_state.md R32; log
  entry 1). -/
  ports : List Inputs
  /-- The model's own: the number of the next edge (00_scope.md R12; log entry 5). -/
  edgeNo : Nat
  deriving DecidableEq, Repr

/-- The two ways a command can fail (00_scope.md R11, 60_exceptions.md R200). -/
inductive ErrCode where
  /-- Divide by zero. -/
  | dz
  /-- Illegal command word. -/
  | ill
  deriving DecidableEq, Repr

/-- The outcome of a command (00_scope.md R11). -/
inductive CmdOutcome where
  | ok (lo hi : Bus) (cf : Bool)
  | err (code : ErrCode)
  deriving DecidableEq, Repr

/-- The output ports (10_state.md R33). -/
structure Outputs where
  cmdReady : Bool
  busy : Bool
  done : Bool
  resLo : Bus
  resHi : Bus
  resCf : Bool
  resErr : BitVec 2
  deriving DecidableEq, Repr

/-- The faults: the two uses of the core before its first reset that 10_state.md R49 forbids (K9 of
93_implementation_defined.md). No command of the core faults. Both are safe: the model stops where the spec gives no
value. -/
inductive Fault where
  /-- Raised by an edge with `rst = 0` and `cmd_valid = 1` before the first reset edge. Safe. -/
  | commandBeforeReset
  /-- Raised by a read of the output ports before the first reset edge. Safe. -/
  | outputBeforeReset
  deriving DecidableEq, Repr

/-- The refusals. -/
inductive Refusal where
  /-- Raised by an arm of `exec` that has no meaning yet; no arm of this model does. Safe. -/
  | notModelled (mnemonic : String)
  deriving DecidableEq, Repr

/-- The state right after a reset edge (10_state.md R48). CMD_L, A_L and B_L are unspecified there and are 0 here (log
entry 4); no sample of the ports is listed (log entry 1); edges are numbered from 0 (log entry 5). -/
def State.reset : State where
  busy := false
  done := false
  resLo := 0
  resHi := 0
  cf := false
  err := 0
  cmdL := 0
  aL := 0
  bL := 0
  cnt := 0
  live := true
  ports := []
  edgeNo := 0

/-- A state between power-up and the first reset edge: every register holds no defined value (10_state.md R49), so
whatever `junk` holds stands there, and nothing may be read or presented. -/
def State.powerUp (junk : State) : State := { junk with live := false }

end Sys2Proof.Machine
end

