-- ==== Sys2Proof/Machine/Operands.lean ====
section
/-! DEFINITION. Operand assembly (30_encoding.md R84, R85), zero extension of results (40_engine.md R101) and the limbs of
a composed width (00_scope.md R9, 20_memory.md R64). -/

namespace Sys2Proof.Machine

/-- The width-`N` operand of a bus, its bits [N-1:0]; the bits above are ignored (30_encoding.md R84). -/
def operand (N : Nat) (bus : Bus) : BitVec N := bus.setWidth N

/-- The shift distance, bits [7:0] of the B bus at every width (30_encoding.md R85). -/
def distance (bus : Bus) : Distance := bus.setWidth 8

/-- `zext_128` (00_scope.md R8, 40_engine.md R101). -/
def zext128 {N : Nat} (v : BitVec N) : Bus := v.setWidth 128

/-- The successful outcome of a width-`N` operation (40_engine.md R100, R101). -/
def okOf {N : Nat} (t : Triple N) : CmdOutcome := .ok (zext128 t.lo) (zext128 t.hi) t.cf

/-- `hi(v)`, the more significant limb (00_scope.md R9). -/
def hiLimb {h : Nat} (v : BitVec (h + h)) : BitVec h := v.extractLsb' h h

/-- `lo(v)`, the less significant limb (00_scope.md R9). -/
def loLimb {h : Nat} (v : BitVec (h + h)) : BitVec h := v.extractLsb' 0 h

/-- `H ‖ L` (00_scope.md R8, R9). -/
def joinLimbs {h : Nat} (H L : BitVec h) : BitVec (h + h) := H ++ L

/-- A flag as an `h`-bit value, `zext_h(c)` (44_add.md R162). -/
def bitValue (h : Nat) (c : Bool) : BitVec h := BitVec.ofNat h c.toNat

end Sys2Proof.Machine
end

