-- ==== Sys2Proof/Machine/Flags.lean ====
section
/-! DEFINITION. The carry and the borrow (10_state.md R38). -/

namespace Sys2Proof.Machine

/-- The carry-out of an addition: the exact sum is at least 2^N (44_add.md R160). -/
def carryOut {N : Nat} (A B : BitVec N) : Bool := decide (2 ^ N ≤ A.toNat + B.toNat)

/-- The borrow of a subtraction and the CF of a comparison: the unsigned comparison A < B (45_sub.md R170, 41_compare.md
R130), never a function of the adder's carry (45_sub.md R171). -/
def borrow {N : Nat} (A B : BitVec N) : Bool := decide (A.toNat < B.toNat)

/-- The carry-out from the top bits `a`, `b` of the operands and `s` of the sum (44_add.md R161). -/
def carryFromTopBits (a b s : Bool) : Bool := (a && b) || ((a ^^ b) && !s)

end Sys2Proof.Machine
end

