-- ==== Sys2Proof/Machine/Ops.lean ====
section
/-! DEFINITION. The operations over the registers that the engine is made of: writing an outcome, completing a command
(the one place where an error is reported, 60_exceptions.md R204), accepting one, counting down, idling, reset, and reading
the output ports. -/

namespace Sys2Proof.Machine

/-- The value of ERR for an error (60_exceptions.md R200). -/
def errValue : ErrCode → BitVec 2
  | .dz => 1
  | .ill => 2

/-- Writing an outcome at a completion edge (40_engine.md R105). -/
def State.writeOutcome (s : State) : CmdOutcome → State
  | .ok lo hi cf => { s with resLo := lo, resHi := hi, cf := cf, err := 0 }
  | .err code => { s with err := errValue code }

/-- The completion of the command in flight (40_engine.md R104). For an error this is the whole of the error entry: ERR,
BUSY, DONE and CNT change and nothing else (60_exceptions.md R204); there is no return from it, the next completion
overwrites ERR (60_exceptions.md R206). -/
def State.complete (s : State) (o : CmdOutcome) : State :=
  { s.writeOutcome o with busy := false, done := true, cnt := 0 }

/-- How every command ends: its outcome is written at the completion edge (40_engine.md R104). -/
def finish (o : CmdOutcome) (s : State) : Host.Outcome State Fault Refusal := .next (s.complete o)

/-- An accept edge (40_engine.md R103). -/
def State.accept (lat : Latency) (inp : Inputs) (s : State) : State :=
  { s with cmdL := inp.cmdWord, aL := inp.opa, bL := inp.opb, cnt := lat inp.cmdWord inp.opa inp.opb,
           busy := true, done := false }

/-- A busy edge that is not the completion edge (40_engine.md R104). -/
def State.countDown (s : State) : State := { s with cnt := s.cnt - 1, done := false }

/-- An idle edge: DONE falls and all else is unchanged (40_engine.md R106, 60_exceptions.md R213). -/
def State.idle (s : State) : State := { s with done := false }

/-- The number of the next edge moves on (00_scope.md R12). -/
def State.tick (s : State) : State := { s with edgeNo := s.edgeNo + 1 }

/-- A reset edge (70_reset_and_hazards.md R230): the values of 10_state.md R48, whatever the state; CMD_L, A_L and B_L
become free values (log entry 4). -/
def State.resetEdge (s : State) : State :=
  { State.reset with
    cmdL := Config.freeCmdL s.edgeNo, aL := Config.freeAL s.edgeNo, bL := Config.freeBL s.edgeNo,
    ports := s.ports, edgeNo := s.edgeNo + 1 }

/-- The sample of the input ports at the next edge: the first one listed, or what the host drives where none is (log
entry 1). -/
def State.sample (s : State) : Inputs :=
  match s.ports with
  | inp :: _ => inp
  | [] => Config.hostDrive s.edgeNo

/-- The state with the sample of the next edge taken off the list. -/
def State.popSample (s : State) : State := { s with ports := s.ports.tail }

/-- The outputs as functions of the registers (10_state.md R45). -/
def State.outputs (s : State) : Outputs :=
  { cmdReady := !s.busy, busy := s.busy, done := s.done, resLo := s.resLo, resHi := s.resHi, resCf := s.cf,
    resErr := s.err }

/-- A read of the output ports by the host: no side effect (10_state.md R45), and a fault of the host before the first
reset (10_state.md R49). -/
def State.readOutputs (s : State) : Host.Outcome Outputs Fault Refusal :=
  if s.live then .next s.outputs else .fault .outputBeforeReset

end Sys2Proof.Machine
end

