-- ==== Sys2Proof/Machine/Add.lean ====
section
/-! DEFINITION. ADD (44_add.md): the value rule, its composition from two limbs, and the five commands. -/

namespace Sys2Proof.Machine

/-- ADD: the exact sum modulo 2^N, with CF the carry-out (44_add.md R160). -/
def addValue {N : Nat} (A B : BitVec N) : Triple N :=
  { lo := BitVec.ofNat N ((A.toNat + B.toNat) % 2 ^ N), hi := 0, cf := carryOut A B }

/-- ADD from two limbs, a ripple of the low limbs' carry into the high limbs (44_add.md R162). -/
def addLimbs {h : Nat} (A B : BitVec (h + h)) : Triple (h + h) :=
  let low := addValue (loLimb A) (loLimb B)
  let high := addValue (hiLimb A) (hiLimb B)
  let folded := addValue high.lo (bitValue h low.cf)
  { lo := joinLimbs folded.lo low.lo, hi := 0, cf := high.cf || folded.cf }

/-- The outcome of ADD.Wn. -/
def addOutcome (N : Nat) (a b : Bus) : CmdOutcome := okOf (addValue (operand N a) (operand N b))

/-- ADD.W8 (44_add.md R160). -/
def execAddW8 (s : State) : Host.Outcome State Fault Refusal := finish (addOutcome 8 s.aL s.bL) s

/-- ADD.W16 (44_add.md R160). -/
def execAddW16 (s : State) : Host.Outcome State Fault Refusal := finish (addOutcome 16 s.aL s.bL) s

/-- ADD.W32 (44_add.md R160). -/
def execAddW32 (s : State) : Host.Outcome State Fault Refusal := finish (addOutcome 32 s.aL s.bL) s

/-- ADD.W64 (44_add.md R160). -/
def execAddW64 (s : State) : Host.Outcome State Fault Refusal := finish (addOutcome 64 s.aL s.bL) s

/-- ADD.W128 (44_add.md R160). -/
def execAddW128 (s : State) : Host.Outcome State Fault Refusal := finish (addOutcome 128 s.aL s.bL) s

end Sys2Proof.Machine
end

