-- ==== Sys2Proof/Machine/Bitwise.lean ====
section
/-! DEFINITION. NOT, AND, OR and XOR (42_bitwise.md): the value rules, their composition limb by limb, and the twenty
commands. -/

namespace Sys2Proof.Machine

/-- A result with no second value and no flag: `(lo = v, hi = 0, cf = 0)`. -/
def plainResult {N : Nat} (v : BitVec N) : Triple N := { lo := v, hi := 0, cf := false }

/-- NOT (42_bitwise.md R140). -/
def bitNot {N : Nat} (A : BitVec N) : Triple N := plainResult (~~~A)

/-- AND (42_bitwise.md R141). -/
def bitAnd {N : Nat} (A B : BitVec N) : Triple N := plainResult (A &&& B)

/-- OR (42_bitwise.md R142). -/
def bitOr {N : Nat} (A B : BitVec N) : Triple N := plainResult (A ||| B)

/-- XOR (42_bitwise.md R143). -/
def bitXor {N : Nat} (A B : BitVec N) : Triple N := plainResult (A ^^^ B)

/-- NOT on each limb (42_bitwise.md R144). -/
def notLimbs {h : Nat} (A : BitVec (h + h)) : Triple (h + h) :=
  plainResult (joinLimbs (~~~(hiLimb A)) (~~~(loLimb A)))

/-- A two-operand operation applied to `high` and `low` independently (42_bitwise.md R144). -/
def limbwise {h : Nat} (f : BitVec h → BitVec h → Triple h) (A B : BitVec (h + h)) : Triple (h + h) :=
  plainResult (joinLimbs (f (hiLimb A) (hiLimb B)).lo (f (loLimb A) (loLimb B)).lo)

/-- The outcome of NOT.Wn; `opb` is ignored (30_encoding.md R84). -/
def notOutcome (N : Nat) (a _b : Bus) : CmdOutcome := okOf (bitNot (operand N a))

/-- The outcome of AND.Wn. -/
def andOutcome (N : Nat) (a b : Bus) : CmdOutcome := okOf (bitAnd (operand N a) (operand N b))

/-- The outcome of OR.Wn. -/
def orOutcome (N : Nat) (a b : Bus) : CmdOutcome := okOf (bitOr (operand N a) (operand N b))

/-- The outcome of XOR.Wn. -/
def xorOutcome (N : Nat) (a b : Bus) : CmdOutcome := okOf (bitXor (operand N a) (operand N b))

/-- NOT.W8 (42_bitwise.md R140). -/
def execNotW8 (s : State) : Host.Outcome State Fault Refusal := finish (notOutcome 8 s.aL s.bL) s

/-- NOT.W16 (42_bitwise.md R140). -/
def execNotW16 (s : State) : Host.Outcome State Fault Refusal := finish (notOutcome 16 s.aL s.bL) s

/-- NOT.W32 (42_bitwise.md R140). -/
def execNotW32 (s : State) : Host.Outcome State Fault Refusal := finish (notOutcome 32 s.aL s.bL) s

/-- NOT.W64 (42_bitwise.md R140). -/
def execNotW64 (s : State) : Host.Outcome State Fault Refusal := finish (notOutcome 64 s.aL s.bL) s

/-- NOT.W128 (42_bitwise.md R140). -/
def execNotW128 (s : State) : Host.Outcome State Fault Refusal := finish (notOutcome 128 s.aL s.bL) s

/-- AND.W8 (42_bitwise.md R141). -/
def execAndW8 (s : State) : Host.Outcome State Fault Refusal := finish (andOutcome 8 s.aL s.bL) s

/-- AND.W16 (42_bitwise.md R141). -/
def execAndW16 (s : State) : Host.Outcome State Fault Refusal := finish (andOutcome 16 s.aL s.bL) s

/-- AND.W32 (42_bitwise.md R141). -/
def execAndW32 (s : State) : Host.Outcome State Fault Refusal := finish (andOutcome 32 s.aL s.bL) s

/-- AND.W64 (42_bitwise.md R141). -/
def execAndW64 (s : State) : Host.Outcome State Fault Refusal := finish (andOutcome 64 s.aL s.bL) s

/-- AND.W128 (42_bitwise.md R141). -/
def execAndW128 (s : State) : Host.Outcome State Fault Refusal := finish (andOutcome 128 s.aL s.bL) s

/-- OR.W8 (42_bitwise.md R142). -/
def execOrW8 (s : State) : Host.Outcome State Fault Refusal := finish (orOutcome 8 s.aL s.bL) s

/-- OR.W16 (42_bitwise.md R142). -/
def execOrW16 (s : State) : Host.Outcome State Fault Refusal := finish (orOutcome 16 s.aL s.bL) s

/-- OR.W32 (42_bitwise.md R142). -/
def execOrW32 (s : State) : Host.Outcome State Fault Refusal := finish (orOutcome 32 s.aL s.bL) s

/-- OR.W64 (42_bitwise.md R142). -/
def execOrW64 (s : State) : Host.Outcome State Fault Refusal := finish (orOutcome 64 s.aL s.bL) s

/-- OR.W128 (42_bitwise.md R142). -/
def execOrW128 (s : State) : Host.Outcome State Fault Refusal := finish (orOutcome 128 s.aL s.bL) s

/-- XOR.W8 (42_bitwise.md R143). -/
def execXorW8 (s : State) : Host.Outcome State Fault Refusal := finish (xorOutcome 8 s.aL s.bL) s

/-- XOR.W16 (42_bitwise.md R143). -/
def execXorW16 (s : State) : Host.Outcome State Fault Refusal := finish (xorOutcome 16 s.aL s.bL) s

/-- XOR.W32 (42_bitwise.md R143). -/
def execXorW32 (s : State) : Host.Outcome State Fault Refusal := finish (xorOutcome 32 s.aL s.bL) s

/-- XOR.W64 (42_bitwise.md R143). -/
def execXorW64 (s : State) : Host.Outcome State Fault Refusal := finish (xorOutcome 64 s.aL s.bL) s

/-- XOR.W128 (42_bitwise.md R143). -/
def execXorW128 (s : State) : Host.Outcome State Fault Refusal := finish (xorOutcome 128 s.aL s.bL) s

end Sys2Proof.Machine
end

