-- ==== Sys2Proof/Machine/Compare.lean ====
section
/-! DEFINITION. CMP (41_compare.md): the value rule, the comparison of one backing word, its composition from two limbs,
and the five commands. -/

namespace Sys2Proof.Machine

/-- CMP: the code 0 for equal, 1 for greater and 2^N - 1 for less, with CF the borrow (41_compare.md R130). -/
def cmpValue {N : Nat} (A B : BitVec N) : Triple N :=
  { lo := if A.toNat = B.toNat then 0 else if B.toNat < A.toNat then 1 else BitVec.ofNat N (2 ^ N - 1)
    hi := 0
    cf := borrow A B }

/-- The comparison of one backing word from its sign bits and its signed values, answering -1, 0 or 1 (41_compare.md
R131). -/
def cmpWord {M : Nat} (A B : BitVec M) : Int :=
  if A.msb ≠ B.msb then (if A.msb then 1 else -1) else (A.toInt - B.toInt).sign

/-- The code that stands for an ordering of -1, 0 or 1 (41_compare.md R131). -/
def cmpCode (N : Nat) (c : Int) : BitVec N := if c = 0 then 0 else if c = 1 then 1 else BitVec.ofNat N (2 ^ N - 1)

/-- CMP from two limbs: the high limbs first, the low limbs only if those are equal (41_compare.md R132). -/
def cmpLimbs {h : Nat} (A B : BitVec (h + h)) : Triple (h + h) :=
  let cHi := cmpWord (hiLimb A) (hiLimb B)
  let c := if cHi = 0 then cmpWord (loLimb A) (loLimb B) else cHi
  { lo := cmpCode (h + h) c, hi := 0, cf := decide (c = -1) }

/-- The outcome of CMP.Wn. -/
def cmpOutcome (N : Nat) (a b : Bus) : CmdOutcome := okOf (cmpValue (operand N a) (operand N b))

/-- CMP.W8 (41_compare.md R130). -/
def execCmpW8 (s : State) : Host.Outcome State Fault Refusal := finish (cmpOutcome 8 s.aL s.bL) s

/-- CMP.W16 (41_compare.md R130). -/
def execCmpW16 (s : State) : Host.Outcome State Fault Refusal := finish (cmpOutcome 16 s.aL s.bL) s

/-- CMP.W32 (41_compare.md R130). -/
def execCmpW32 (s : State) : Host.Outcome State Fault Refusal := finish (cmpOutcome 32 s.aL s.bL) s

/-- CMP.W64 (41_compare.md R130). -/
def execCmpW64 (s : State) : Host.Outcome State Fault Refusal := finish (cmpOutcome 64 s.aL s.bL) s

/-- CMP.W128 (41_compare.md R130). -/
def execCmpW128 (s : State) : Host.Outcome State Fault Refusal := finish (cmpOutcome 128 s.aL s.bL) s

end Sys2Proof.Machine
end

