-- ==== Sys2Proof/Machine/Shift.lean ====
section
/-! DEFINITION. SHL and SHR (43_shift.md): the value rules, their composition from two limbs, and the ten commands. -/

namespace Sys2Proof.Machine

/-- SHL: 0 where the distance is N or more, else the logical shift left (43_shift.md R150). -/
def shlValue {N : Nat} (A : BitVec N) (d : Distance) : Triple N :=
  plainResult (if N ≤ d.toNat then 0 else A <<< d.toNat)

/-- SHR: 0 where the distance is N or more, else the logical shift right (43_shift.md R151). -/
def shrValue {N : Nat} (A : BitVec N) (d : Distance) : Triple N :=
  plainResult (if N ≤ d.toNat then 0 else A >>> d.toNat)

/-- SHL from two limbs, with the special cases for 0 and the limb width (43_shift.md R152). -/
def shlLimbs {h : Nat} (A : BitVec (h + h)) (dist : Distance) : Triple (h + h) :=
  let d := dist.toNat
  let H := hiLimb A
  let L := loLimb A
  plainResult
    (if h + h ≤ d then joinLimbs 0 0
     else if d = 0 then joinLimbs H L
     else if d < h then joinLimbs ((H <<< d) ||| (L >>> (h - d))) (L <<< d)
     else if d = h then joinLimbs L 0
     else joinLimbs (L <<< (d - h)) 0)

/-- SHR from two limbs (43_shift.md R153). -/
def shrLimbs {h : Nat} (A : BitVec (h + h)) (dist : Distance) : Triple (h + h) :=
  let d := dist.toNat
  let H := hiLimb A
  let L := loLimb A
  plainResult
    (if h + h ≤ d then joinLimbs 0 0
     else if d = 0 then joinLimbs H L
     else if d < h then joinLimbs (H >>> d) ((L >>> d) ||| (H <<< (h - d)))
     else if d = h then joinLimbs 0 H
     else joinLimbs 0 (H >>> (d - h)))

/-- The outcome of SHL.Wn. -/
def shlOutcome (N : Nat) (a b : Bus) : CmdOutcome := okOf (shlValue (operand N a) (distance b))

/-- The outcome of SHR.Wn. -/
def shrOutcome (N : Nat) (a b : Bus) : CmdOutcome := okOf (shrValue (operand N a) (distance b))

/-- SHL.W8 (43_shift.md R150). -/
def execShlW8 (s : State) : Host.Outcome State Fault Refusal := finish (shlOutcome 8 s.aL s.bL) s

/-- SHL.W16 (43_shift.md R150). -/
def execShlW16 (s : State) : Host.Outcome State Fault Refusal := finish (shlOutcome 16 s.aL s.bL) s

/-- SHL.W32 (43_shift.md R150). -/
def execShlW32 (s : State) : Host.Outcome State Fault Refusal := finish (shlOutcome 32 s.aL s.bL) s

/-- SHL.W64 (43_shift.md R150). -/
def execShlW64 (s : State) : Host.Outcome State Fault Refusal := finish (shlOutcome 64 s.aL s.bL) s

/-- SHL.W128 (43_shift.md R150). -/
def execShlW128 (s : State) : Host.Outcome State Fault Refusal := finish (shlOutcome 128 s.aL s.bL) s

/-- SHR.W8 (43_shift.md R151). -/
def execShrW8 (s : State) : Host.Outcome State Fault Refusal := finish (shrOutcome 8 s.aL s.bL) s

/-- SHR.W16 (43_shift.md R151). -/
def execShrW16 (s : State) : Host.Outcome State Fault Refusal := finish (shrOutcome 16 s.aL s.bL) s

/-- SHR.W32 (43_shift.md R151). -/
def execShrW32 (s : State) : Host.Outcome State Fault Refusal := finish (shrOutcome 32 s.aL s.bL) s

/-- SHR.W64 (43_shift.md R151). -/
def execShrW64 (s : State) : Host.Outcome State Fault Refusal := finish (shrOutcome 64 s.aL s.bL) s

/-- SHR.W128 (43_shift.md R151). -/
def execShrW128 (s : State) : Host.Outcome State Fault Refusal := finish (shrOutcome 128 s.aL s.bL) s

end Sys2Proof.Machine
end

