-- ==== Sys2Proof/Machine/Sub.lean ====
section
/-! DEFINITION. SUB (45_sub.md): the value rule, the reference computation by negation, its composition from two limbs,
and the five commands. -/

namespace Sys2Proof.Machine

/-- SUB: the exact difference modulo 2^N, with CF the borrow (45_sub.md R170). -/
def subValue {N : Nat} (A B : BitVec N) : Triple N :=
  { lo := BitVec.ofNat N ((A.toNat + 2 ^ N - B.toNat) % 2 ^ N), hi := 0, cf := borrow A B }

/-- The reference computation: A plus the two's complement of B, with the borrow from the comparison (45_sub.md R172). -/
def subRef {N : Nat} (A B : BitVec N) : Triple N :=
  let nb := (addValue (bitNot B).lo 1).lo
  { lo := (addValue A nb).lo, hi := 0, cf := (cmpValue A B).cf }

/-- The same with each step composed from two limbs (45_sub.md R172). -/
def subLimbs {h : Nat} (A B : BitVec (h + h)) : Triple (h + h) :=
  let nb := (addLimbs (notLimbs B).lo 1).lo
  { lo := (addLimbs A nb).lo, hi := 0, cf := (cmpLimbs A B).cf }

/-- The outcome of SUB.Wn. -/
def subOutcome (N : Nat) (a b : Bus) : CmdOutcome := okOf (subValue (operand N a) (operand N b))

/-- SUB.W8 (45_sub.md R170). -/
def execSubW8 (s : State) : Host.Outcome State Fault Refusal := finish (subOutcome 8 s.aL s.bL) s

/-- SUB.W16 (45_sub.md R170). -/
def execSubW16 (s : State) : Host.Outcome State Fault Refusal := finish (subOutcome 16 s.aL s.bL) s

/-- SUB.W32 (45_sub.md R170). -/
def execSubW32 (s : State) : Host.Outcome State Fault Refusal := finish (subOutcome 32 s.aL s.bL) s

/-- SUB.W64 (45_sub.md R170). -/
def execSubW64 (s : State) : Host.Outcome State Fault Refusal := finish (subOutcome 64 s.aL s.bL) s

/-- SUB.W128 (45_sub.md R170). -/
def execSubW128 (s : State) : Host.Outcome State Fault Refusal := finish (subOutcome 128 s.aL s.bL) s

end Sys2Proof.Machine
end

