-- ==== Sys2Proof/Machine/Div.lean ====
section
/-! DEFINITION. DIVMOD (47_div.md): the value rule with its divide-by-zero error, the restoring long division over given
primitives, its instances at one width and from two limbs, its iteration count, and the five commands. -/

namespace Sys2Proof.Machine

/-- DIVMOD, reached only with B ≠ 0: floor quotient and remainder (47_div.md R190). -/
def divmodValue {N : Nat} (A B : BitVec N) : Triple N :=
  let q := A.toNat / B.toNat
  { lo := BitVec.ofNat N q, hi := BitVec.ofNat N (A.toNat - q * B.toNat), cf := false }

/-- Normalisation of the divisor: doubled while its top bit is 0 and the doubled divisor is at most the dividend, at
most `fuel` times; the divisor and the count of doublings (47_div.md R192). -/
def normalise {N : Nat} (le : BitVec N → BitVec N → Bool) (double : BitVec N → BitVec N) (A : BitVec N) :
    Nat → BitVec N → Nat → BitVec N × Nat
  | 0, d, s => (d, s)
  | fuel + 1, d, s =>
    if !d.msb && le (double d) A then normalise le double A fuel (double d) (s + 1) else (d, s)

/-- The restoring iterations still to run: double the quotient; where the divisor is at most the remainder subtract it
and set the quotient's low bit; halve the divisor (47_div.md R192). The result is the quotient and the remainder. -/
def restore {N : Nat} (le : BitVec N → BitVec N → Bool) (minus : BitVec N → BitVec N → BitVec N)
    (double halve setLow : BitVec N → BitVec N) : Nat → BitVec N → BitVec N → BitVec N → BitVec N × BitVec N
  | 0, _, q, r => (q, r)
  | k + 1, d, q, r =>
    if le d r then restore le minus double halve setLow k (halve d) (setLow (double q)) (minus r d)
    else restore le minus double halve setLow k (halve d) (double q) r

/-- Restoring long division over given primitives: normalise, then s + 1 iterations (47_div.md R192). -/
def longDivision {N : Nat} (le : BitVec N → BitVec N → Bool) (minus : BitVec N → BitVec N → BitVec N)
    (double halve setLow : BitVec N → BitVec N) (A B : BitVec N) : Triple N :=
  let n := normalise le double A N B 0
  let qr := restore le minus double halve setLow (n.2 + 1) n.1 0 A
  { lo := qr.1, hi := qr.2, cf := false }

/-- `u(x) ≤ u(y)` by CMP (47_div.md R192): y is not less than x. -/
def leByCmp {N : Nat} (x y : BitVec N) : Bool := !(cmpValue y x).cf

/-- Restoring long division with the operations of one width (47_div.md R192). -/
def divmodRef {N : Nat} (A B : BitVec N) : Triple N :=
  longDivision leByCmp (fun r d => (subValue r d).lo) (fun v => (shlValue v 1).lo) (fun v => (shrValue v 1).lo)
    (fun q => (bitOr q 1).lo) A B

/-- Restoring long division with every step composed from two limbs (47_div.md R194). -/
def divmodLimbs {h : Nat} (A B : BitVec (h + h)) : Triple (h + h) :=
  longDivision (fun x y => !(cmpLimbs y x).cf) (fun r d => (subLimbs r d).lo)
    (fun v => (shlLimbs v 1).lo) (fun v => (shrLimbs v 1).lo) (fun q => (limbwise bitOr q 1).lo) A B

/-- The number of iterations of the restoring loop, s + 1 (47_div.md R193). It bears on the latency alone. -/
def divIterations {N : Nat} (A B : BitVec N) : Nat := (normalise leByCmp (fun v => (shlValue v 1).lo) A N B 0).2 + 1

/-- The outcome of DIVMOD.Wn: a zero divisor reports DZ for every dividend (47_div.md R191), any other divides. -/
def divmodOutcome (N : Nat) (a b : Bus) : CmdOutcome :=
  if operand N b = 0 then .err .dz else okOf (divmodValue (operand N a) (operand N b))

/-- DIVMOD.W8 (47_div.md R190, R191). -/
def execDivmodW8 (s : State) : Host.Outcome State Fault Refusal := finish (divmodOutcome 8 s.aL s.bL) s

/-- DIVMOD.W16 (47_div.md R190, R191). -/
def execDivmodW16 (s : State) : Host.Outcome State Fault Refusal := finish (divmodOutcome 16 s.aL s.bL) s

/-- DIVMOD.W32 (47_div.md R190, R191). -/
def execDivmodW32 (s : State) : Host.Outcome State Fault Refusal := finish (divmodOutcome 32 s.aL s.bL) s

/-- DIVMOD.W64 (47_div.md R190, R191). -/
def execDivmodW64 (s : State) : Host.Outcome State Fault Refusal := finish (divmodOutcome 64 s.aL s.bL) s

/-- DIVMOD.W128 (47_div.md R190, R191). -/
def execDivmodW128 (s : State) : Host.Outcome State Fault Refusal := finish (divmodOutcome 128 s.aL s.bL) s

end Sys2Proof.Machine
end

