-- ==== Sys2Proof/Machine/Mul.lean ====
section
/-! DEFINITION. MUL (46_mul.md): the value rule, the schoolbook composition from two limbs, and the five commands. -/

namespace Sys2Proof.Machine

/-- MUL: the low and the high half of the exact product (46_mul.md R180). -/
def mulValue {N : Nat} (A B : BitVec N) : Triple N :=
  let p := A.toNat * B.toNat
  { lo := BitVec.ofNat N (p % 2 ^ N), hi := BitVec.ofNat N (p / 2 ^ N), cf := false }

/-- MUL from two limbs: four partial products by a half-width multiplier `mulH`, each carry added into the next limb
(46_mul.md R182). -/
def mulLimbs {h : Nat} (mulH : BitVec h → BitVec h → Triple h) (A B : BitVec (h + h)) : Triple (h + h) :=
  let p0 := mulH (loLimb A) (loLimb B)
  let p1 := mulH (loLimb A) (hiLimb B)
  let p2 := mulH (hiLimb A) (loLimb B)
  let p3 := mulH (hiLimb A) (hiLimb B)
  let r0 := p0.lo
  let sa := addValue p0.hi p1.lo
  let sb := addValue sa.lo p2.lo
  let c1 := sa.cf.toNat + sb.cf.toNat
  let sc := addValue p1.hi p2.hi
  let sd := addValue sc.lo p3.lo
  let se := addValue sd.lo (BitVec.ofNat h c1)
  let c2 := sc.cf.toNat + sd.cf.toNat + se.cf.toNat
  let sf := addValue p3.hi (BitVec.ofNat h c2)
  { lo := joinLimbs sb.lo r0, hi := joinLimbs sf.lo se.lo, cf := false }

/-- The outcome of MUL.Wn. -/
def mulOutcome (N : Nat) (a b : Bus) : CmdOutcome := okOf (mulValue (operand N a) (operand N b))

/-- MUL.W8 (46_mul.md R180). -/
def execMulW8 (s : State) : Host.Outcome State Fault Refusal := finish (mulOutcome 8 s.aL s.bL) s

/-- MUL.W16 (46_mul.md R180). -/
def execMulW16 (s : State) : Host.Outcome State Fault Refusal := finish (mulOutcome 16 s.aL s.bL) s

/-- MUL.W32 (46_mul.md R180). -/
def execMulW32 (s : State) : Host.Outcome State Fault Refusal := finish (mulOutcome 32 s.aL s.bL) s

/-- MUL.W64 (46_mul.md R180). -/
def execMulW64 (s : State) : Host.Outcome State Fault Refusal := finish (mulOutcome 64 s.aL s.bL) s

/-- MUL.W128 (46_mul.md R180). -/
def execMulW128 (s : State) : Host.Outcome State Fault Refusal := finish (mulOutcome 128 s.aL s.bL) s

end Sys2Proof.Machine
end

