-- ==== Sys2Proof/Machine/Dispatch.lean ====
section
/-! DEFINITION. One arm per command: its meaning, which is what its completion edge does to the state. -/

namespace Sys2Proof.Machine

def exec (i : Instr) (s : State) : Host.Outcome State Fault Refusal :=
  match i with
  | .cmpW8 => Sys2Proof.Machine.execCmpW8 s
  | .cmpW16 => Sys2Proof.Machine.execCmpW16 s
  | .cmpW32 => Sys2Proof.Machine.execCmpW32 s
  | .cmpW64 => Sys2Proof.Machine.execCmpW64 s
  | .cmpW128 => Sys2Proof.Machine.execCmpW128 s
  | .notW8 => Sys2Proof.Machine.execNotW8 s
  | .notW16 => Sys2Proof.Machine.execNotW16 s
  | .notW32 => Sys2Proof.Machine.execNotW32 s
  | .notW64 => Sys2Proof.Machine.execNotW64 s
  | .notW128 => Sys2Proof.Machine.execNotW128 s
  | .andW8 => Sys2Proof.Machine.execAndW8 s
  | .andW16 => Sys2Proof.Machine.execAndW16 s
  | .andW32 => Sys2Proof.Machine.execAndW32 s
  | .andW64 => Sys2Proof.Machine.execAndW64 s
  | .andW128 => Sys2Proof.Machine.execAndW128 s
  | .orW8 => Sys2Proof.Machine.execOrW8 s
  | .orW16 => Sys2Proof.Machine.execOrW16 s
  | .orW32 => Sys2Proof.Machine.execOrW32 s
  | .orW64 => Sys2Proof.Machine.execOrW64 s
  | .orW128 => Sys2Proof.Machine.execOrW128 s
  | .xorW8 => Sys2Proof.Machine.execXorW8 s
  | .xorW16 => Sys2Proof.Machine.execXorW16 s
  | .xorW32 => Sys2Proof.Machine.execXorW32 s
  | .xorW64 => Sys2Proof.Machine.execXorW64 s
  | .xorW128 => Sys2Proof.Machine.execXorW128 s
  | .shlW8 => Sys2Proof.Machine.execShlW8 s
  | .shlW16 => Sys2Proof.Machine.execShlW16 s
  | .shlW32 => Sys2Proof.Machine.execShlW32 s
  | .shlW64 => Sys2Proof.Machine.execShlW64 s
  | .shlW128 => Sys2Proof.Machine.execShlW128 s
  | .shrW8 => Sys2Proof.Machine.execShrW8 s
  | .shrW16 => Sys2Proof.Machine.execShrW16 s
  | .shrW32 => Sys2Proof.Machine.execShrW32 s
  | .shrW64 => Sys2Proof.Machine.execShrW64 s
  | .shrW128 => Sys2Proof.Machine.execShrW128 s
  | .addW8 => Sys2Proof.Machine.execAddW8 s
  | .addW16 => Sys2Proof.Machine.execAddW16 s
  | .addW32 => Sys2Proof.Machine.execAddW32 s
  | .addW64 => Sys2Proof.Machine.execAddW64 s
  | .addW128 => Sys2Proof.Machine.execAddW128 s
  | .subW8 => Sys2Proof.Machine.execSubW8 s
  | .subW16 => Sys2Proof.Machine.execSubW16 s
  | .subW32 => Sys2Proof.Machine.execSubW32 s
  | .subW64 => Sys2Proof.Machine.execSubW64 s
  | .subW128 => Sys2Proof.Machine.execSubW128 s
  | .mulW8 => Sys2Proof.Machine.execMulW8 s
  | .mulW16 => Sys2Proof.Machine.execMulW16 s
  | .mulW32 => Sys2Proof.Machine.execMulW32 s
  | .mulW64 => Sys2Proof.Machine.execMulW64 s
  | .mulW128 => Sys2Proof.Machine.execMulW128 s
  | .divmodW8 => Sys2Proof.Machine.execDivmodW8 s
  | .divmodW16 => Sys2Proof.Machine.execDivmodW16 s
  | .divmodW32 => Sys2Proof.Machine.execDivmodW32 s
  | .divmodW64 => Sys2Proof.Machine.execDivmodW64 s
  | .divmodW128 => Sys2Proof.Machine.execDivmodW128 s

end Sys2Proof.Machine
end

