-- ==== Sys2Proof/Machine/Edge.lean ====
section
/-! DEFINITION. One rising edge of the clock (40_engine.md R106), over a given latency and a given sample of the input
ports, and a row of edges. -/

namespace Sys2Proof.Machine

/-- The completion edge: the latched word is decoded and its command runs; a word that names no command completes with
ILL (40_engine.md R104, 60_exceptions.md R202). -/
def completionEdge (s : State) : Host.Outcome State Fault Refusal :=
  match decode s.cmdL with
  | .ok i => exec i s
  | .error _ => finish (.err .ill) s

/-- An edge with `rst = 0` of a core that has been reset (40_engine.md R103, R104, R106). A command presented while
BUSY = 1 is not looked at (40_engine.md R107). -/
def liveEdge (lat : Latency) (inp : Inputs) (s : State) : Host.Outcome State Fault Refusal :=
  if s.busy then
    if s.cnt = 1 then completionEdge s else .next s.countDown
  else if inp.cmdValid then .next (s.accept lat inp)
  else .next s.idle

/-- The whole edge step in priority order (40_engine.md R106): reset over everything; before the first reset a command
presented is a fault of the host, and with none presented nothing has a value yet (10_state.md R49). -/
def edge (lat : Latency) (inp : Inputs) (s : State) : Host.Outcome State Fault Refusal :=
  if inp.rst then .next s.resetEdge
  else if s.live then liveEdge lat inp s.tick
  else if inp.cmdValid then .fault .commandBeforeReset
  else .next s.tick

/-- One edge after another, one sample of the ports for each, stopping at a fault. -/
def edges (lat : Latency) : List Inputs → State → Host.Outcome State Fault Refusal
  | [], s => .next s
  | inp :: rest, s =>
    match edge lat inp s with
    | .next s' => edges lat rest s'
    | .fault f => .fault f
    | .refused r => .refused r

/-- A sample of the ports with nothing presented. -/
def noCommand : Inputs := { rst := false, cmdValid := false, cmdWord := 0, opa := 0, opb := 0 }

/-- A sample of the ports that presents a command. -/
def present (cmd : CmdWord) (a b : Bus) : Inputs :=
  { rst := false, cmdValid := true, cmdWord := cmd, opa := a, opb := b }

/-- The state at the completion edge of the command of word `cmd`: accepted, counted down to its last edge, with
nothing presented and no reset at that edge. -/
def State.atCompletion (s : State) (cmd : CmdWord) : State :=
  { s with live := true, busy := true, cnt := 1, cmdL := cmd, ports := noCommand :: s.ports }

end Sys2Proof.Machine
end

