-- ==== Sys2Proof/Machine/Step.lean ====
section
/-! DEFINITION. The step: one edge (40_engine.md R106), with the latency of the configuration and the next sample of the
input ports. -/

namespace Sys2Proof.Machine

/-- One rising edge: take the next sample of the ports and act on it. -/
def step (s : State) : Host.Outcome State Fault Refusal := edge Config.LAT s.sample s.popSample

/-- `s` with the command of word `w` at its completion edge, so that the very next step runs it. The core fetches nothing
(10_state.md R31): the word stands in CMD_L, where an accept edge puts it (log entry 6). Every word is 16 bits
(30_encoding.md R87), and the bits above `nbits` are 0. -/
def State.withFetchWord (s : State) (nbits w : Nat) : State := s.atCompletion (BitVec.ofNat 16 (w % 2 ^ nbits))

end Sys2Proof.Machine
end

