-- ==== Sys2Proof/Machine/Controller.lean ====
section
/-! DEFINITION. The multi-limb composition controller (40_engine.md R111, R112): how the wide commands are built from
narrower ones. It is not observable: the step computes each command by its value rule, and what stands here is what the
spec says gives the same outcome. -/

namespace Sys2Proof.Machine

/-- The 64-bit product from 32-bit limbs (46_mul.md R182, R181). -/
def mul64ByLimbs (A B : BitVec 64) : Triple 64 := mulLimbs (h := 32) mulValue A B

/-- The 128-bit product from 64-bit limbs, each partial product itself composed (46_mul.md R182). -/
def mul128ByLimbs (A B : BitVec 128) : Triple 128 := mulLimbs (h := 64) mul64ByLimbs A B

/-- DIVMOD from limbs; a zero divisor is tested before (47_div.md R191, R194). -/
def divmodByLimbs {h : Nat} (A B : BitVec (h + h)) : CmdOutcome :=
  if B = 0 then .err .dz else okOf (divmodLimbs A B)

/-- The composed form of a command, for every row of the table of 40_engine.md R111, and for the 64-bit operations that
may be built from 32-bit limbs (R112); a command that is not composed has none. -/
def composed (i : Instr) (a b : Bus) : Option CmdOutcome :=
  let A64 : BitVec (32 + 32) := operand 64 a
  let B64 : BitVec (32 + 32) := operand 64 b
  let A128 : BitVec (64 + 64) := operand 128 a
  let B128 : BitVec (64 + 64) := operand 128 b
  let d := distance b
  match i with
  | .cmpW64 => some (okOf (cmpLimbs A64 B64))
  | .notW64 => some (okOf (notLimbs A64))
  | .andW64 => some (okOf (limbwise bitAnd A64 B64))
  | .orW64 => some (okOf (limbwise bitOr A64 B64))
  | .xorW64 => some (okOf (limbwise bitXor A64 B64))
  | .shlW64 => some (okOf (shlLimbs A64 d))
  | .shrW64 => some (okOf (shrLimbs A64 d))
  | .addW64 => some (okOf (addLimbs A64 B64))
  | .subW64 => some (okOf (subLimbs A64 B64))
  | .mulW64 => some (okOf (mul64ByLimbs A64 B64))
  | .divmodW64 => some (divmodByLimbs A64 B64)
  | .cmpW128 => some (okOf (cmpLimbs A128 B128))
  | .notW128 => some (okOf (notLimbs A128))
  | .andW128 => some (okOf (limbwise bitAnd A128 B128))
  | .orW128 => some (okOf (limbwise bitOr A128 B128))
  | .xorW128 => some (okOf (limbwise bitXor A128 B128))
  | .shlW128 => some (okOf (shlLimbs A128 d))
  | .shrW128 => some (okOf (shrLimbs A128 d))
  | .addW128 => some (okOf (addLimbs A128 B128))
  | .subW128 => some (okOf (subLimbs A128 B128))
  | .mulW128 => some (okOf (mul128ByLimbs A128 B128))
  | .divmodW128 => some (divmodByLimbs A128 B128)
  | .cmpW8 | .cmpW16 | .cmpW32 | .notW8 | .notW16 | .notW32 | .andW8 | .andW16 | .andW32
  | .orW8 | .orW16 | .orW32 | .xorW8 | .xorW16 | .xorW32 | .shlW8 | .shlW16 | .shlW32
  | .shrW8 | .shrW16 | .shrW32 | .addW8 | .addW16 | .addW32 | .subW8 | .subW16 | .subW32
  | .mulW8 | .mulW16 | .mulW32 | .divmodW8 | .divmodW16 | .divmodW32 => none

end Sys2Proof.Machine
end

