-- ==== Sys2Proof/Machine/Exec.lean ====
section
/-! DEFINITION. The outcome of a command as a pure function of its word and its operand buses (40_engine.md R100),
written from the word's fields and not through the decoder, so that the two can be held against each other. -/

namespace Sys2Proof.Machine

/-- The number of bits the width code selects; of a reserved code nothing is asked (30_encoding.md R81). -/
def bitsOfCode (w : BitVec 3) : Nat := 8 * 2 ^ w.toNat

/-- `Exec(cmd, a, b)` (40_engine.md R100): an illegal word is tested first (60_exceptions.md R203). -/
def commandOutcome (cmd : CmdWord) (a b : Bus) : CmdOutcome :=
  if legal cmd = false then .err .ill
  else
    let N := bitsOfCode (fieldW cmd)
    let A := operand N a
    let B := operand N b
    let DIST := distance b
    match (fieldOp cmd).toNat with
    | 0x1 => okOf (cmpValue A B)
    | 0x2 => okOf (bitNot A)
    | 0x3 => okOf (bitAnd A B)
    | 0x4 => okOf (bitOr A B)
    | 0x5 => okOf (bitXor A B)
    | 0x6 => okOf (shlValue A DIST)
    | 0x7 => okOf (shrValue A DIST)
    | 0x8 => okOf (addValue A B)
    | 0x9 => okOf (subValue A B)
    | 0xA => okOf (mulValue A B)
    | 0xB => if B = 0 then .err .dz else okOf (divmodValue A B)
    | _ => .err .ill

end Sys2Proof.Machine
end

