-- ==== Sys2Proof/Machine/Pseudo.lean ====
section
/-! DEFINITION. The pseudo-instructions (30_encoding.md R91): each expands to commands of the core, whose outcomes it
reads. They are no commands of their own. -/

namespace Sys2Proof.Machine

/-- INC.Wn a, `ADD.Wn a, 1` (30_encoding.md R91). -/
def pseudoInc (n : Width) (a : Bus) : CmdOutcome := commandOutcome (wordOf .add n) a 1

/-- NEG.Wn a, `NOT.Wn a` and then `ADD.Wn RES_LO, 1` (30_encoding.md R91). -/
def pseudoNeg (n : Width) (a : Bus) : CmdOutcome :=
  match commandOutcome (wordOf .not n) a 0 with
  | .ok lo _ _ => commandOutcome (wordOf .add n) lo 1
  | .err code => .err code

/-- A predicate over the result of `CMP.Wn a, b`, read from RES_LO and CF (30_encoding.md R91). -/
def ofCmp (read : Bus → Bool → Bool) (n : Width) (a b : Bus) : Bool :=
  match commandOutcome (wordOf .cmp n) a b with
  | .ok lo _ cf => read lo cf
  | .err _ => false

/-- EQ.Wn a, b: RES_LO = 0 (30_encoding.md R91). -/
def pseudoEq : Width → Bus → Bus → Bool := ofCmp fun lo _ => decide (lo = 0)

/-- LT.Wn a, b: CF = 1 (30_encoding.md R91). -/
def pseudoLt : Width → Bus → Bus → Bool := ofCmp fun _ cf => cf

/-- LTE.Wn a, b: RES_LO ≠ 1 (30_encoding.md R91). -/
def pseudoLte : Width → Bus → Bus → Bool := ofCmp fun lo _ => decide (lo ≠ 1)

/-- GT.Wn a, b: RES_LO = 1 (30_encoding.md R91). -/
def pseudoGt : Width → Bus → Bus → Bool := ofCmp fun lo _ => decide (lo = 1)

/-- GTE.Wn a, b: CF = 0 (30_encoding.md R91). -/
def pseudoGte : Width → Bus → Bus → Bool := ofCmp fun _ cf => !cf

/-- ISPOS.Wn a, `CMP.Wn a, 0`: RES_LO = 1 (30_encoding.md R91). -/
def pseudoIsPos (n : Width) (a : Bus) : Bool := pseudoGt n a 0

/-- TRUNC.k of a width-N result v: the bits [k-1:0] of the result register, k one of 8, 16, 32 and 64; no command. It
covers only the truncating case k ≤ N: beyond N the spec states no extension, and the conversion is refused
(30_encoding.md R91, K4 of 93_implementation_defined.md). -/
def pseudoTrunc (n : Width) (k : Nat) (v : Bus) : Option (BitVec k) :=
  if (k = 8 ∨ k = 16 ∨ k = 32 ∨ k = 64) ∧ k ≤ n.bits then some (v.setWidth k) else none

end Sys2Proof.Machine
end

