-- ==== Sys2Proof/Machine/Structures.lean ====
section
/-! DEFINITION. The datapath structures the spec gives for reference (44_add.md R163, 43_shift.md R155, 46_mul.md R183): a
parallel-prefix adder, its Kogge-Stone tree, a barrel shifter, a radix-4 Booth multiplier and a Wallace tree. None is
observable and the step uses none of them. -/

namespace Sys2Proof.Machine

/-- A pair of generate and propagate (44_add.md R163). -/
abbrev GenProp := Bool × Bool

/-- The prefix operator, the more significant group first (44_add.md R163). -/
def prefixOp (x y : GenProp) : GenProp := (x.1 || (x.2 && y.1), x.2 && y.2)

/-- Generate and propagate of bit `i` (44_add.md R163). -/
def genProp {N : Nat} (A B : BitVec N) (i : Nat) : GenProp :=
  (A.getLsbD i && B.getLsbD i, A.getLsbD i ^^ B.getLsbD i)

/-- The group of bits `i` down to 0 (44_add.md R163). -/
def prefixGroup {N : Nat} (A B : BitVec N) : Nat → GenProp
  | 0 => genProp A B 0
  | i + 1 => prefixOp (genProp A B (i + 1)) (prefixGroup A B i)

/-- The carry into bit `i`: none into bit 0, and the group generate of the bits below elsewhere (44_add.md R163). -/
def prefixCarry (groups : Nat → GenProp) : Nat → Bool
  | 0 => false
  | i + 1 => (groups i).1

/-- The `n` low bits of a bit vector whose bits are given. -/
def ofBits (bit : Nat → Bool) : (n : Nat) → BitVec n
  | 0 => 0
  | n + 1 => (BitVec.cons (bit n) (ofBits bit n))

/-- Sum and carry-out from the carries (44_add.md R163). -/
def addByGroups {N : Nat} (groups : Nat → GenProp) (A B : BitVec N) : Triple N :=
  { lo := ofBits (fun i => (genProp A B i).2 ^^ prefixCarry groups i) N, hi := 0, cf := prefixCarry groups N }

/-- The parallel-prefix adder (44_add.md R163). -/
def prefixAdd {N : Nat} (A B : BitVec N) : Triple N := addByGroups (prefixGroup A B) A B

/-- One level of the Kogge-Stone tree: each position is combined with the one `span` below it (44_add.md R163). -/
def koggeStoneLevel (span : Nat) (xs : List GenProp) : List GenProp :=
  xs.mapIdx fun i x => if span ≤ i then prefixOp x (xs.getD (i - span) (false, false)) else x

/-- The levels 2^k, 2^(k+1), … that are still to come, `n` of them (44_add.md R163). -/
def koggeStoneLevels : Nat → Nat → List GenProp → List GenProp
  | 0, _, xs => xs
  | n + 1, k, xs => koggeStoneLevels n (k + 1) (koggeStoneLevel (2 ^ k) xs)

/-- The number of levels, the least `k` with N ≤ 2^k among those up to `fuel` (44_add.md R163: 3 to 7 for N = 8 to
128). -/
def levelsFor (N : Nat) : Nat → Nat
  | 0 => 0
  | fuel + 1 => if N ≤ 2 ^ levelsFor N fuel then levelsFor N fuel else levelsFor N fuel + 1

/-- The Kogge-Stone adder (44_add.md R163). -/
def koggeStoneAdd {N : Nat} (A B : BitVec N) : Triple N :=
  let groups := koggeStoneLevels (levelsFor N N) 0 ((List.range N).map (genProp A B))
  addByGroups (fun i => groups.getD i (false, false)) A B

/-- One stage of the barrel shifter: by 2^k where bit k of the distance is 1 (43_shift.md R155). -/
def barrelStage {N : Nat} (shift : BitVec N → Nat → BitVec N) (d : Distance) (v : BitVec N) (k : Nat) : BitVec N :=
  if d.getLsbD k then shift v (2 ^ k) else v

/-- The barrel shifter: the range test, then the stages 0 to ceil(log2 N) - 1 (43_shift.md R155). -/
def barrelShift {N : Nat} (shift : BitVec N → Nat → BitVec N) (A : BitVec N) (d : Distance) : Triple N :=
  plainResult (if N ≤ d.toNat then 0 else (List.range (levelsFor N N)).foldl (barrelStage shift d) A)

/-- SHL by the barrel shifter (43_shift.md R155). -/
def barrelShl {N : Nat} (A : BitVec N) (d : Distance) : Triple N := barrelShift (fun v n => v <<< n) A d

/-- SHR by the barrel shifter (43_shift.md R155). -/
def barrelShr {N : Nat} (A : BitVec N) (d : Distance) : Triple N := barrelShift (fun v n => v >>> n) A d

/-- Bit `i` as a number; bits at and above N are 0 (46_mul.md R183: a zero digit above bit N-1). -/
def bitInt {N : Nat} (B : BitVec N) (i : Nat) : Int := if B.getLsbD i then 1 else 0

/-- The radix-4 Booth digit `j`, in -2 to 2; below bit 0 stands a 0 (46_mul.md R183). -/
def boothDigit {N : Nat} (B : BitVec N) (j : Nat) : Int :=
  -2 * bitInt B (2 * j + 1) + bitInt B (2 * j) + (if j = 0 then 0 else bitInt B (2 * j - 1))

/-- The sum of the first `n` partial products `d_j · A · 4^j` (46_mul.md R183). -/
def boothSum {N : Nat} (A B : BitVec N) : Nat → Int
  | 0 => 0
  | n + 1 => boothSum A B n + boothDigit B n * (A.toNat : Int) * 4 ^ n

/-- The Booth multiplier: digits 0 to ceil((N+1)/2) - 1 (46_mul.md R183). -/
def boothMul {N : Nat} (A B : BitVec N) : Triple N :=
  let p := boothSum A B ((N + 2) / 2)
  { lo := BitVec.ofInt N (p % 2 ^ N), hi := BitVec.ofInt N (p / 2 ^ N), cf := false }

/-- The partial-product rows: A at the weight of each bit of B that is 1 (46_mul.md R183). -/
def partialRows {N : Nat} (A B : BitVec N) : List (BitVec (N + N)) :=
  (List.range N).map fun i => if B.getLsbD i then A.setWidth (N + N) <<< i else 0

/-- One layer of 3:2 counters over whole rows: three rows become a sum row and a carry row (46_mul.md R183). -/
def counterLayer {M : Nat} : List (BitVec M) → List (BitVec M)
  | x :: y :: z :: rest => (x ^^^ y ^^^ z) :: (((x &&& y) ||| (x &&& z) ||| (y &&& z)) <<< 1) :: counterLayer rest
  | rest => rest

/-- Layers until at most two rows are left, at most `fuel` of them (46_mul.md R183). -/
def reduceRows {M : Nat} : Nat → List (BitVec M) → List (BitVec M)
  | 0, rows => rows
  | fuel + 1, rows => if rows.length ≤ 2 then rows else reduceRows fuel (counterLayer rows)

/-- The Wallace tree and its final carry-propagate adder (46_mul.md R183). -/
def wallaceMul {N : Nat} (A B : BitVec N) : Triple N :=
  let rows := reduceRows N (partialRows A B)
  let p := (prefixAdd (rows.getD 0 0) (rows.getD 1 0)).lo
  { lo := p.setWidth N, hi := p.extractLsb' N N, cf := false }

end Sys2Proof.Machine
end

