-- ==== Sys2Proof/Safety.lean ====
section
/-! DEFINITION. What claims about the core are stated in: the register values that runs reach, when a host may use the
results it reads, and when two states look the same to the host. -/

namespace Sys2Proof.Machine

/-- The engine registers agree with each other: CNT counts exactly while a command is in flight (10_state.md R34, R41),
DONE never stands beside BUSY (10_state.md R35), and ERR is never 3 (10_state.md R39). -/
def State.Coherent (s : State) : Prop :=
  (s.busy = true → 1 ≤ s.cnt) ∧ (s.busy = false → s.cnt = 0) ∧ (s.done = true → s.busy = false) ∧ s.err ≠ 3

/-- The host may use RES_LO, RES_HI and CF as the results of the last completed command: the core has been reset, no
command is in flight, and ERR is 0 (70_reset_and_hazards.md R235, R238, 60_exceptions.md R206). -/
def State.ResultsUsable (s : State) : Prop := s.live = true ∧ s.busy = false ∧ s.err = 0

/-- Two states that no host can tell apart: all is equal but CMD_L, A_L and B_L, and those too while a command is in
flight (10_state.md R40, R44). -/
def State.SameToHost (s t : State) : Prop :=
  s.outputs = t.outputs ∧ s.cnt = t.cnt ∧ s.live = t.live ∧ s.ports = t.ports ∧ s.edgeNo = t.edgeNo ∧
    (s.busy = true → s.cmdL = t.cmdL ∧ s.aL = t.aL ∧ s.bL = t.bL)

/-- Two outcomes of a step that no host can tell apart. -/
def SameOutcome : Host.Outcome State Fault Refusal → Host.Outcome State Fault Refusal → Prop
  | .next s, .next t => s.SameToHost t
  | .fault f, .fault g => f = g
  | .refused r, .refused q => r = q
  | _, _ => False

end Sys2Proof.Machine
end

