-- ==== Sys2Proof/Certificates/Slice0/Obligations.lean ====
section
/-! DEFINITION. The statements for the provers, and before them the few words they are written in: numbers read from the
buses, the table of the forms of each operation, and the state a completed command leaves. -/

namespace Sys2Proof.Claims

open Sys2Proof.Machine

/-- A row of the word table (30_encoding.md R88): the word, the command it stands for, and its width N. -/
structure Form where
  word : CmdWord
  instr : Instr
  bits : Nat
  deriving DecidableEq, Repr

/-- `legal(w)` as 30_encoding.md R83 writes it, on the word as a number. -/
def legalNumber (w : Nat) : Prop := w / 256 = 0 ∧ w / 8 % 2 = 0 ∧ (1 ≤ w / 16 % 16 ∧ w / 16 % 16 ≤ 0xB) ∧ w % 8 ≤ 4

/-- u(A), the operand on `opa` at width N (30_encoding.md R84). -/
def numA (N : Nat) (s : State) : Nat := s.aL.toNat % 2 ^ N

/-- u(B), the operand on `opb` at width N (30_encoding.md R84). -/
def numB (N : Nat) (s : State) : Nat := s.bL.toNat % 2 ^ N

/-- u(DIST), the distance on `opb` (30_encoding.md R85). -/
def numDist (s : State) : Nat := s.bL.toNat % 256

/-- The state after a command completed with `Ok` (40_engine.md R104, R105): all else is as before. -/
def okNext (s : State) (lo hi : Nat) (cf : Bool) : State :=
  { s with resLo := BitVec.ofNat 128 lo, resHi := BitVec.ofNat 128 hi, cf := cf, err := 0,
           busy := false, done := true, cnt := 0 }

/-- The state after a command completed with an error of the given code (40_engine.md R104, R105): all else is as
before. -/
def errNext (s : State) (code : Nat) : State :=
  { s with err := BitVec.ofNat 2 code, busy := false, done := true, cnt := 0 }

/-- The five forms of CMP. -/
def cmpForms : List Form :=
  [⟨0x0010, .cmpW8, 8⟩, ⟨0x0011, .cmpW16, 16⟩, ⟨0x0012, .cmpW32, 32⟩, ⟨0x0013, .cmpW64, 64⟩, ⟨0x0014, .cmpW128, 128⟩]

/-- The five forms of NOT. -/
def notForms : List Form :=
  [⟨0x0020, .notW8, 8⟩, ⟨0x0021, .notW16, 16⟩, ⟨0x0022, .notW32, 32⟩, ⟨0x0023, .notW64, 64⟩, ⟨0x0024, .notW128, 128⟩]

/-- The five forms of AND. -/
def andForms : List Form :=
  [⟨0x0030, .andW8, 8⟩, ⟨0x0031, .andW16, 16⟩, ⟨0x0032, .andW32, 32⟩, ⟨0x0033, .andW64, 64⟩, ⟨0x0034, .andW128, 128⟩]

/-- The five forms of OR. -/
def orForms : List Form :=
  [⟨0x0040, .orW8, 8⟩, ⟨0x0041, .orW16, 16⟩, ⟨0x0042, .orW32, 32⟩, ⟨0x0043, .orW64, 64⟩, ⟨0x0044, .orW128, 128⟩]

/-- The five forms of XOR. -/
def xorForms : List Form :=
  [⟨0x0050, .xorW8, 8⟩, ⟨0x0051, .xorW16, 16⟩, ⟨0x0052, .xorW32, 32⟩, ⟨0x0053, .xorW64, 64⟩, ⟨0x0054, .xorW128, 128⟩]

/-- The five forms of SHL. -/
def shlForms : List Form :=
  [⟨0x0060, .shlW8, 8⟩, ⟨0x0061, .shlW16, 16⟩, ⟨0x0062, .shlW32, 32⟩, ⟨0x0063, .shlW64, 64⟩, ⟨0x0064, .shlW128, 128⟩]

/-- The five forms of SHR. -/
def shrForms : List Form :=
  [⟨0x0070, .shrW8, 8⟩, ⟨0x0071, .shrW16, 16⟩, ⟨0x0072, .shrW32, 32⟩, ⟨0x0073, .shrW64, 64⟩, ⟨0x0074, .shrW128, 128⟩]

/-- The five forms of ADD. -/
def addForms : List Form :=
  [⟨0x0080, .addW8, 8⟩, ⟨0x0081, .addW16, 16⟩, ⟨0x0082, .addW32, 32⟩, ⟨0x0083, .addW64, 64⟩, ⟨0x0084, .addW128, 128⟩]

/-- The five forms of SUB. -/
def subForms : List Form :=
  [⟨0x0090, .subW8, 8⟩, ⟨0x0091, .subW16, 16⟩, ⟨0x0092, .subW32, 32⟩, ⟨0x0093, .subW64, 64⟩, ⟨0x0094, .subW128, 128⟩]

/-- The five forms of MUL. -/
def mulForms : List Form :=
  [⟨0x00A0, .mulW8, 8⟩, ⟨0x00A1, .mulW16, 16⟩, ⟨0x00A2, .mulW32, 32⟩, ⟨0x00A3, .mulW64, 64⟩, ⟨0x00A4, .mulW128, 128⟩]

/-- The five forms of DIVMOD. -/
def divmodForms : List Form :=
  [⟨0x00B0, .divmodW8, 8⟩, ⟨0x00B1, .divmodW16, 16⟩, ⟨0x00B2, .divmodW32, 32⟩, ⟨0x00B3, .divmodW64, 64⟩, ⟨0x00B4, .divmodW128, 128⟩]

end Sys2Proof.Claims

open Sys2Proof Sys2Proof.Machine Sys2Proof.Claims

/-- For every latency and every state (a command in flight or not, reset before or not) there is one state t that
every edge with rst = 1 leads to, whatever cmd_valid, cmd_word, opa and opb are: BUSY, DONE, RES_LO, RES_HI, CF,
ERR and CNT are 0 in t, and so they are in State.reset. A command in flight is thereby aborted. (R48; R230) -/
def Obligations.ResetEdgeGivesTheResetValues : Prop :=
  ∀ (lat : Latency) (s : State), ∃ t : State,
    (∀ inp : Inputs, inp.rst = true → edge lat inp s = .next t) ∧
    (∀ u : State, u = t ∨ u = State.reset →
      u.busy = false ∧ u.done = false ∧ u.resLo = 0 ∧ u.resHi = 0 ∧ u.cf = false ∧ u.err = 0 ∧ u.cnt = 0)

/-- In a core that has been reset, an edge with rst = 0, BUSY = 0 and cmd_valid = 1 answers the next state with
CMD_L, A_L, B_L the inputs, CNT the latency of them, BUSY 1, DONE 0 and all else as before but the number of the
edge, for every word, legal or not; and the latency of the configuration is at least 1. (R103) -/
def Obligations.AcceptEdgeLatchesCommand : Prop :=
  (∀ (lat : Latency) (inp : Inputs) (s : State),
    s.live = true → inp.rst = false → s.busy = false → inp.cmdValid = true →
    edge lat inp s = .next { s with
      cmdL := inp.cmdWord, aL := inp.opa, bL := inp.opb, cnt := lat inp.cmdWord inp.opa inp.opb,
      busy := true, done := false, edgeNo := s.edgeNo + 1 }) ∧
  (∀ (cmd : CmdWord) (a b : Bus), 1 ≤ Config.LAT cmd a b)

/-- In a core that has been reset and has a command in flight, two edges with rst = 0 lead to the same outcome
whatever the two samples present; and where CNT is not 1 that outcome is the next state with CNT one less and
DONE 0, all else as before but the number of the edge: nothing presented is accepted or queued. The host sees
cmd_ready = 0 there. That a busy edge with CNT = 0, which no run reaches, leaves CNT 0 is the model's choice
(log entry 8, DESIGN CHOICE). (R107; R104) -/
def Obligations.CommandPresentedWhileBusyIsIgnored : Prop :=
  ∀ (lat : Latency) (inp inp' : Inputs) (s : State),
    s.live = true → s.busy = true → inp.rst = false → inp'.rst = false →
    s.outputs.cmdReady = false ∧ edge lat inp s = edge lat inp' s ∧
    (s.cnt ≠ 1 → edge lat inp s = .next { s with cnt := s.cnt - 1, done := false, edgeNo := s.edgeNo + 1 })

/-- In a core that has been reset, a busy edge with rst = 0 and CNT = 1 answers the next state with BUSY 0, DONE 1,
CNT 0 and the outcome of the latched command written: RES_LO, RES_HI, CF and ERR 0 for Ok, only ERR (1 or 2) for
an error; a busy edge with another CNT counts down. The outcome is the pure function of the word fields, while
the step goes through the decoder and the dispatch. That a busy edge with CNT = 0, which no run reaches, leaves
CNT 0 is the model's choice (log entry 8, DESIGN CHOICE). (R104; R105) -/
def Obligations.CompletionEdgeWritesTheOutcome : Prop :=
  ∀ (lat : Latency) (inp : Inputs) (s : State), s.live = true → s.busy = true → inp.rst = false →
    edge lat inp s = .next
      (if s.cnt = 1 then
        match commandOutcome s.cmdL s.aL s.bL with
        | .ok lo hi cf => { s with
            resLo := lo, resHi := hi, cf := cf, err := 0, busy := false, done := true, cnt := 0,
            edgeNo := s.edgeNo + 1 }
        | .err .dz => { s with err := 1, busy := false, done := true, cnt := 0, edgeNo := s.edgeNo + 1 }
        | .err .ill => { s with err := 2, busy := false, done := true, cnt := 0, edgeNo := s.edgeNo + 1 }
      else { s with cnt := s.cnt - 1, done := false, edgeNo := s.edgeNo + 1 })

/-- In a core that has been reset, an edge with rst = 0, BUSY = 0 and cmd_valid = 0 answers the next state with DONE
0 and all else as before but the number of the edge. (R106; R213) -/
def Obligations.IdleEdgeClearsDoneOnly : Prop :=
  ∀ (lat : Latency) (inp : Inputs) (s : State),
    s.live = true → inp.rst = false → s.busy = false → inp.cmdValid = false →
    edge lat inp s = .next { s with done := false, edgeNo := s.edgeNo + 1 }

/-- Where the core has been reset, a command is in flight with CNT = 1, the next sample has rst = 0 and CMD_L
decodes to i, the step is exec i at the state with the sample taken off the list and the number of the edge
moved on. The model holds the samples and the number (log entries 1 and 5). (R104; R106) -/
def Obligations.StepRunsTheDecodedCommand : Prop :=
  ∀ (s : State) (i : Instr), s.live = true → s.busy = true → s.cnt = 1 → s.sample.rst = false →
    decode s.cmdL = .ok i →
    step s = exec i { s with ports := s.ports.tail, edgeNo := s.edgeNo + 1 }

/-- For every state and every 16-bit word that decodes to i, the step of s.withFetchWord is exec i at s with the
core reset, the command in flight at CNT = 1, the word in CMD_L and the number of the edge moved on, the listed
samples as they were. How a word is placed is the model's choice (log entry 6). (R104; R40) -/
def Obligations.StepRunsThePlacedWord : Prop :=
  ∀ (s : State) (w : Nat) (i : Instr), decode (BitVec.ofNat 16 w) = .ok i →
    step (s.withFetchWord 16 w) =
      exec i { s with live := true, busy := true, cnt := 1, cmdL := BitVec.ofNat 16 w, edgeNo := s.edgeNo + 1 }

/-- For every 16-bit word: legal holds iff the four conditions on its fields hold, and the decoder refuses it iff
they do not. A completion edge of a word that fails them writes ERR 2, BUSY 0, DONE 1, CNT 0 and nothing else,
for every operand, also where the OP field reads 0xB and B is 0. (R202) -/
def Obligations.DecoderRefusesExactlyTheIllegalWords : Prop :=
  (∀ w : CmdWord, (legal w = true ↔ legalNumber w.toNat) ∧ ((∃ e, decode w = .error e) ↔ ¬ legalNumber w.toNat)) ∧
  (∀ s : State, ¬ legalNumber s.cmdL.toNat → completionEdge s = .next (errNext s 2))

/-- The number of 16-bit words that the decoder accepts is 55, and the number that fail legal is 65481. (R83; R88) -/
def Obligations.FiftyFiveWordsAreLegal : Prop :=
  ((List.range 65536).filter fun n => (decode? (BitVec.ofNat 16 n)).isSome).length = 55 ∧
  ((List.range 65536).filter fun n => !legal (BitVec.ofNat 16 n)).length = 65481

/-- For every 16-bit word w and every command i: decode w answers i if and only if w is encode i. So decoding an
encoded command gives it back, and no other word decodes to it. (R80; R81; R82; R83; R88) -/
def Obligations.DecodeAndEncodeAgree : Prop :=
  ∀ (w : CmdWord) (i : Instr), decode w = .ok i ↔ w = encode i

/-- One word of each operation, and the all-zero word, written out from the table: 0x0010 CMP.W8, 0x0021 NOT.W16,
0x0032 AND.W32, 0x0043 OR.W64, 0x0054 XOR.W128, 0x0060 SHL.W8, 0x0071 SHR.W16, 0x0082 ADD.W32, 0x0093 SUB.W64,
0x00A4 MUL.W128, 0x00B1 DIVMOD.W16, and 0x0000 is refused. (R88) -/
def Obligations.WordsWrittenFromTheTableDecode : Prop :=
  decode 0x0010 = .ok .cmpW8 ∧ decode 0x0021 = .ok .notW16 ∧ decode 0x0032 = .ok .andW32 ∧
  decode 0x0043 = .ok .orW64 ∧ decode 0x0054 = .ok .xorW128 ∧ decode 0x0060 = .ok .shlW8 ∧
  decode 0x0071 = .ok .shrW16 ∧ decode 0x0082 = .ok .addW32 ∧ decode 0x0093 = .ok .subW64 ∧
  decode 0x00A4 = .ok .mulW128 ∧ decode 0x00B1 = .ok .divmodW16 ∧ decode 0x0000 = .error .reservedOpcode

/-- For each of CMP.W8, CMP.W16, CMP.W32, CMP.W64, CMP.W128: its word decodes to it, and in every state it
completes: the next state is the one with RES_LO the code (0 where A = B, 1 where A > B, 2^N - 1 where A < B),
RES_HI 0, CF set iff A < B, ERR 0, BUSY 0, DONE 1, CNT 0 and everything else as before. (R130) -/
def Obligations.CmpWritesCodeAndBorrow : Prop :=
  ∀ f ∈ cmpForms, decode f.word = .ok f.instr ∧
    ∀ s : State, exec f.instr s = .next (okNext s
      (if numA f.bits s = numB f.bits s then 0 else if numB f.bits s < numA f.bits s then 1 else 2 ^ f.bits - 1)
      (0)
      (decide (numA f.bits s < numB f.bits s)))

/-- For each of NOT.W8, NOT.W16, NOT.W32, NOT.W64, NOT.W128: its word decodes to it, and in every state it
completes: the next state is the one with RES_LO 2^N - 1 - A, RES_HI 0, CF 0, ERR 0, BUSY 0, DONE 1, CNT 0 and
everything else as before. (R140) -/
def Obligations.NotWritesComplement : Prop :=
  ∀ f ∈ notForms, decode f.word = .ok f.instr ∧
    ∀ s : State, exec f.instr s = .next (okNext s
      (2 ^ f.bits - 1 - numA f.bits s)
      (0)
      (false))

/-- For each of AND.W8, AND.W16, AND.W32, AND.W64, AND.W128: its word decodes to it, and in every state it
completes: the next state is the one with RES_LO A & B, RES_HI 0, CF 0, ERR 0, BUSY 0, DONE 1, CNT 0 and
everything else as before. (R141) -/
def Obligations.AndWritesBitwiseAnd : Prop :=
  ∀ f ∈ andForms, decode f.word = .ok f.instr ∧
    ∀ s : State, exec f.instr s = .next (okNext s
      (numA f.bits s &&& numB f.bits s)
      (0)
      (false))

/-- For each of OR.W8, OR.W16, OR.W32, OR.W64, OR.W128: its word decodes to it, and in every state it completes: the
next state is the one with RES_LO A | B, RES_HI 0, CF 0, ERR 0, BUSY 0, DONE 1, CNT 0 and everything else as
before. (R142) -/
def Obligations.OrWritesBitwiseOr : Prop :=
  ∀ f ∈ orForms, decode f.word = .ok f.instr ∧
    ∀ s : State, exec f.instr s = .next (okNext s
      (numA f.bits s ||| numB f.bits s)
      (0)
      (false))

/-- For each of XOR.W8, XOR.W16, XOR.W32, XOR.W64, XOR.W128: its word decodes to it, and in every state it
completes: the next state is the one with RES_LO A ^ B, RES_HI 0, CF 0, ERR 0, BUSY 0, DONE 1, CNT 0 and
everything else as before. (R143) -/
def Obligations.XorWritesBitwiseXor : Prop :=
  ∀ f ∈ xorForms, decode f.word = .ok f.instr ∧
    ∀ s : State, exec f.instr s = .next (okNext s
      (numA f.bits s ^^^ numB f.bits s)
      (0)
      (false))

/-- For each of SHL.W8, SHL.W16, SHL.W32, SHL.W64, SHL.W128: its word decodes to it, and in every state it
completes: the next state is the one with RES_LO 0 where DIST ≥ N and else A·2^DIST mod 2^N, RES_HI 0, CF 0, ERR
0, BUSY 0, DONE 1, CNT 0 and everything else as before. (R150) -/
def Obligations.ShlWritesShiftedValue : Prop :=
  ∀ f ∈ shlForms, decode f.word = .ok f.instr ∧
    ∀ s : State, exec f.instr s = .next (okNext s
      (if f.bits ≤ numDist s then 0 else numA f.bits s * 2 ^ numDist s % 2 ^ f.bits)
      (0)
      (false))

/-- For each of SHR.W8, SHR.W16, SHR.W32, SHR.W64, SHR.W128: its word decodes to it, and in every state it
completes: the next state is the one with RES_LO 0 where DIST ≥ N and else A div 2^DIST (zeros enter at the
top), RES_HI 0, CF 0, ERR 0, BUSY 0, DONE 1, CNT 0 and everything else as before. (R151) -/
def Obligations.ShrWritesShiftedValue : Prop :=
  ∀ f ∈ shrForms, decode f.word = .ok f.instr ∧
    ∀ s : State, exec f.instr s = .next (okNext s
      (if f.bits ≤ numDist s then 0 else numA f.bits s / 2 ^ numDist s)
      (0)
      (false))

/-- For each of ADD.W8, ADD.W16, ADD.W32, ADD.W64, ADD.W128: its word decodes to it, and in every state it
completes: the next state is the one with RES_LO (A + B) mod 2^N, RES_HI 0, CF set iff A + B ≥ 2^N, ERR 0, BUSY
0, DONE 1, CNT 0 and everything else as before. (R160) -/
def Obligations.AddWritesSumAndCarry : Prop :=
  ∀ f ∈ addForms, decode f.word = .ok f.instr ∧
    ∀ s : State, exec f.instr s = .next (okNext s
      ((numA f.bits s + numB f.bits s) % 2 ^ f.bits)
      (0)
      (decide (2 ^ f.bits ≤ numA f.bits s + numB f.bits s)))

/-- For each of SUB.W8, SUB.W16, SUB.W32, SUB.W64, SUB.W128: its word decodes to it, and in every state it
completes: the next state is the one with RES_LO (A + 2^N - B) mod 2^N, RES_HI 0, CF set iff B > A, ERR 0, BUSY
0, DONE 1, CNT 0 and everything else as before. (R170) -/
def Obligations.SubWritesDifferenceAndBorrow : Prop :=
  ∀ f ∈ subForms, decode f.word = .ok f.instr ∧
    ∀ s : State, exec f.instr s = .next (okNext s
      ((numA f.bits s + 2 ^ f.bits - numB f.bits s) % 2 ^ f.bits)
      (0)
      (decide (numA f.bits s < numB f.bits s)))

/-- For each of MUL.W8, MUL.W16, MUL.W32, MUL.W64, MUL.W128: its word decodes to it, and in every state it
completes: the next state is the one with RES_LO A·B mod 2^N, RES_HI A·B div 2^N, CF 0, ERR 0, BUSY 0, DONE 1,
CNT 0 and everything else as before. (R180) -/
def Obligations.MulWritesBothProductHalves : Prop :=
  ∀ f ∈ mulForms, decode f.word = .ok f.instr ∧
    ∀ s : State, exec f.instr s = .next (okNext s
      (numA f.bits s * numB f.bits s % 2 ^ f.bits)
      (numA f.bits s * numB f.bits s / 2 ^ f.bits)
      (false))

/-- For each of DIVMOD.W8, DIVMOD.W16, DIVMOD.W32, DIVMOD.W64, DIVMOD.W128: its word decodes to it; in every state
with B ≠ 0 it completes with RES_LO = A div B, RES_HI = A - (A div B)·B, CF 0, ERR 0, BUSY 0, DONE 1, CNT 0 and
everything else as before; in every state with B = 0, whatever A is, it completes with ERR 1, BUSY 0, DONE 1,
CNT 0 and everything else, the results and CF among it, as before. (R190; R191) -/
def Obligations.DivmodWritesQuotientAndRemainder : Prop :=
  ∀ f ∈ divmodForms, decode f.word = .ok f.instr ∧ ∀ s : State,
    (numB f.bits s ≠ 0 → exec f.instr s = .next (okNext s
      (numA f.bits s / numB f.bits s)
      (numA f.bits s - numA f.bits s / numB f.bits s * numB f.bits s)
      false)) ∧
    (numB f.bits s = 0 → exec f.instr s = .next (errNext s 1))

/-- Every command in every state completes; ERR is 1 after it exactly where the operation is DIVMOD and B at its
width is 0, and 0 everywhere else. (R201) -/
def Obligations.OnlyDivmodByZeroReportsAnError : Prop :=
  ∀ (i : Instr) (s : State), ∃ t : State, exec i s = .next t ∧
    (t.err = 1 ↔ i.op = .divmod ∧ numB i.width.bits s = 0) ∧
    (t.err = 0 ↔ ¬ (i.op = .divmod ∧ numB i.width.bits s = 0))

/-- For every command i and state s, exec i s completes with the pure outcome of the word of i and of A_L and B_L:
no register, no flag (CF among them), no time and no earlier command bears on it. (R100; R38) -/
def Obligations.EveryCommandIsItsPureOutcome : Prop :=
  ∀ (i : Instr) (s : State), exec i s = .next (s.complete (commandOutcome (encode i) s.aL s.bL))

/-- For every command i of width N and every state s, if exec i s answers t with ERR 0, then RES_LO and RES_HI of t
are below 2^N. (R101) -/
def Obligations.ResultsAreZeroExtended : Prop :=
  ∀ (i : Instr) (s t : State), exec i s = .next t → t.err = 0 →
    t.resLo.toNat < 2 ^ i.width.bits ∧ t.resHi.toNat < 2 ^ i.width.bits

/-- For every command of width N, two pairs of buses whose opa agree modulo 2^N, and whose opb agree modulo 2^8 for
SHL and SHR, modulo 2^N for the others, and in any way for NOT, give the same outcome. (R84; R85) -/
def Obligations.UpperOperandBitsAreIgnored : Prop :=
  ∀ (i : Instr) (a a' b b' : Bus), a.toNat % 2 ^ i.width.bits = a'.toNat % 2 ^ i.width.bits →
    (i.op = .not ∨ ((i.op = .shl ∨ i.op = .shr) ∧ b.toNat % 256 = b'.toNat % 256) ∨
      b.toNat % 2 ^ i.width.bits = b'.toNat % 2 ^ i.width.bits ∧ i.op ≠ .shl ∧ i.op ≠ .shr) →
    commandOutcome (encode i) a b = commandOutcome (encode i) a' b'

/-- For every command i and every state s, if exec i s answers t, then CMD_L, A_L, B_L, the reset mark, the listed
samples and the number of the edge are as before, BUSY is 0, DONE is 1 and CNT is 0; and if ERR of t is not 0
then RES_LO, RES_HI and CF are as before. The core has no memory. (R104; R105; R204) -/
def Obligations.CommandsLeaveTheRestUnchanged : Prop :=
  ∀ (i : Instr) (s t : State), exec i s = .next t →
    t.cmdL = s.cmdL ∧ t.aL = s.aL ∧ t.bL = s.bL ∧ t.live = s.live ∧ t.ports = s.ports ∧ t.edgeNo = s.edgeNo ∧
    t.busy = false ∧ t.done = true ∧ t.cnt = 0 ∧
    (t.err ≠ 0 → t.resLo = s.resLo ∧ t.resHi = s.resHi ∧ t.cf = s.cf)

/-- For every state s that is coherent (BUSY implies CNT ≥ 1, not BUSY implies CNT = 0, DONE implies not BUSY, ERR ≠
3), if the step answers t then t is coherent, whatever the host drives and whatever the latency is. (R34; R35;
R39; R41) -/
def Obligations.StepKeepsRegistersCoherent : Prop :=
  ∀ s t : State, s.Coherent → step s = .next t → t.Coherent

/-- CNT is positive exactly while BUSY, DONE does not stand beside BUSY, and ERR is not 3, in State.reset. (R48) -/
def Obligations.ResetStateIsCoherent : Prop :=
  State.reset.Coherent

/-- For every latency function that is at least 1 everywhere, every state of a core that has been reset and is not
busy, every sample that presents a command with rst = 0 and every further samples with rst = 0, as many as the
latency of that command: these edges lead to a state with BUSY 0, DONE 1, CNT 0 in which the outcome of the
presented command stands (RES_LO, RES_HI, CF and ERR 0, or, on an error, ERR alone, the results as before the
accept edge). (R103; R104; R109; R235) -/
def Obligations.CommandCompletesAfterItsLatency : Prop :=
  ∀ (lat : Latency) (s : State) (inp : Inputs) (rest : List Inputs),
    (∀ cmd a b, 1 ≤ lat cmd a b) → s.live = true → s.busy = false → inp.rst = false → inp.cmdValid = true →
    (∀ x ∈ rest, x.rst = false) → rest.length = lat inp.cmdWord inp.opa inp.opb →
    ∃ t : State, edges lat (inp :: rest) s = .next t ∧ t.busy = false ∧ t.done = true ∧ t.cnt = 0 ∧
      match commandOutcome inp.cmdWord inp.opa inp.opb with
      | .ok lo hi cf => t.resLo = lo ∧ t.resHi = hi ∧ t.cf = cf ∧ t.err = 0
      | .err c => t.resLo = s.resLo ∧ t.resHi = s.resHi ∧ t.cf = s.cf ∧ t.err = errValue c

/-- After an accept edge and n further edges with rst = 0, n less than the latency of the command, the core is busy
with CNT = latency - n and DONE 0, and RES_LO, RES_HI, CF and ERR are as before the accept edge. (R237) -/
def Obligations.ResultsAreStaleWhileBusy : Prop :=
  ∀ (lat : Latency) (s : State) (inp : Inputs) (rest : List Inputs),
    s.live = true → s.busy = false → inp.rst = false → inp.cmdValid = true →
    (∀ x ∈ rest, x.rst = false) → rest.length < lat inp.cmdWord inp.opa inp.opb →
    ∃ t : State, edges lat (inp :: rest) s = .next t ∧ t.busy = true ∧ t.done = false ∧
      t.cnt = lat inp.cmdWord inp.opa inp.opb - rest.length ∧
      t.resLo = s.resLo ∧ t.resHi = s.resHi ∧ t.cf = s.cf ∧ t.err = s.err

/-- Two states that differ at most in CMD_L, A_L and B_L, and not in those while BUSY = 1, lead over every row of
edges and every latency to outcomes that again differ in nothing a host can see. So the values these registers
have after a reset, which the spec leaves open, bear on nothing. (R40; R44; R47) -/
def Obligations.HiddenRegistersAreNeverObserved : Prop :=
  ∀ (lat : Latency) (inps : List Inputs) (s t : State), s.SameToHost t →
    SameOutcome (edges lat inps s) (edges lat inps t)

/-- In a core that has been reset, an edge leads to a next state, and DONE is 1 in it exactly if rst was 0, BUSY was
1 and CNT was 1. (R35) -/
def Obligations.DoneIsSetExactlyAtCompletionEdges : Prop :=
  ∀ (lat : Latency) (inp : Inputs) (s : State), s.live = true →
    ∃ t : State, edge lat inp s = .next t ∧
      (t.done = true ↔ inp.rst = false ∧ s.busy = true ∧ s.cnt = 1)

/-- For every edge that leads from s to t: if RES_LO, RES_HI or CF differ then rst was 1, or BUSY was 1, CNT was 1
and the outcome of the latched command was Ok; if ERR differs then rst was 1, or BUSY was 1 and CNT was 1. (R36;
R37; R38; R39; R67) -/
def Obligations.ResultsChangeOnlyAtCompletionOrReset : Prop :=
  ∀ (lat : Latency) (inp : Inputs) (s t : State), edge lat inp s = .next t →
    ((t.resLo ≠ s.resLo ∨ t.resHi ≠ s.resHi ∨ t.cf ≠ s.cf) →
      inp.rst = true ∨ (s.busy = true ∧ s.cnt = 1 ∧ ∃ lo hi cf, commandOutcome s.cmdL s.aL s.bL = .ok lo hi cf)) ∧
    (t.err ≠ s.err → inp.rst = true ∨ (s.busy = true ∧ s.cnt = 1))

/-- In a core that has not been reset, an edge with rst = 0 faults if a command is presented and otherwise leaves
the core not reset, a read of the outputs faults, and an edge with rst = 1 leads to a core that has been reset.
The two faults are what R49 states; that an edge with nothing presented goes on, and that a reset edge sets the
mark, is the model's reading of it (log entry 3, DEDUCED). (R49; R234) -/
def Obligations.UseBeforeResetIsAFault : Prop :=
  ∀ (lat : Latency) (inp : Inputs) (s : State), s.live = false →
    (inp.rst = false → inp.cmdValid = true → edge lat inp s = .fault .commandBeforeReset) ∧
    (inp.rst = false → inp.cmdValid = false → ∃ t, edge lat inp s = .next t ∧ t.live = false) ∧
    (inp.rst = true → ∃ t, edge lat inp s = .next t ∧ t.live = true) ∧
    s.readOutputs = .fault .outputBeforeReset

/-- In a core that has been reset, a read of the outputs gives cmd_ready = not BUSY, busy = BUSY, done = DONE,
res_lo = RES_LO, res_hi = RES_HI, res_cf = CF and res_err = ERR. (R45) -/
def Obligations.OutputsAreTheRegisters : Prop :=
  ∀ s : State, s.live = true → s.readOutputs = .next
    { cmdReady := !s.busy, busy := s.busy, done := s.done, resLo := s.resLo, resHi := s.resHi, resCf := s.cf,
      resErr := s.err }

/-- For every state of a core that has been reset the step answers a next state, of a core that has been reset: an
error completion does not stop the core. (R106; R108) -/
def Obligations.ResetCoreAlwaysStepsAndStaysReset : Prop :=
  ∀ s : State, s.live = true → ∃ t : State, step s = .next t ∧ t.live = true

/-- For every width M and all A and B, the comparison from sign bits and signed values answers -1, 0 or 1 as u(A) is
less than, equal to or greater than u(B). (R131) -/
def Obligations.CompareOfOneWordIsUnsigned : Prop :=
  ∀ (M : Nat) (A B : BitVec M), cmpWord A B = ((A.toNat : Int) - (B.toNat : Int)).sign

/-- For every limb width h and all A and B of width 2h, the comparison of the high limbs and then of the low limbs
gives the code and the CF of CMP. (R132) -/
def Obligations.CompareFromLimbsIsCompare : Prop :=
  ∀ (h : Nat) (A B : BitVec (h + h)), cmpLimbs A B = cmpValue A B

/-- For every limb width h and all A and B of width 2h. (R144) -/
def Obligations.BitwiseFromLimbsIsBitwise : Prop :=
  ∀ (h : Nat) (A B : BitVec (h + h)), notLimbs A = bitNot A ∧ limbwise bitAnd A B = bitAnd A B ∧
    limbwise bitOr A B = bitOr A B ∧ limbwise bitXor A B = bitXor A B

/-- For every limb width h, every A of width 2h and every distance 0 to 255, the five cases of the limb composition
give the value of the shift. (R152; R153; R154) -/
def Obligations.ShiftsFromLimbsAreShifts : Prop :=
  ∀ (h : Nat) (A : BitVec (h + h)) (d : Distance), shlLimbs A d = shlValue A d ∧ shrLimbs A d = shrValue A d

/-- For every width N ≥ 1 and all A and B: CF of ADD is the top-bit formula; it is 1 wherever both top bits are 1;
and the formula (a ≠ b) and not s differs from CF exactly where both top bits are 1. (R161; R164) -/
def Obligations.CarryFollowsFromTopBits : Prop :=
  ∀ (N : Nat) (A B : BitVec N), 1 ≤ N →
    (addValue A B).cf = carryFromTopBits A.msb B.msb (addValue A B).lo.msb ∧
    (A.msb = true → B.msb = true → (addValue A B).cf = true) ∧
    (((A.msb ^^ B.msb) && !(addValue A B).lo.msb) ≠ (addValue A B).cf ↔ A.msb = true ∧ B.msb = true)

/-- For every limb width h and all A and B of width 2h. (R162) -/
def Obligations.AddFromLimbsIsAdd : Prop :=
  ∀ (h : Nat) (A B : BitVec (h + h)), addLimbs A B = addValue A B ∧
    ¬ ((addValue (hiLimb A) (hiLimb B)).cf = true ∧
      (addValue (addValue (hiLimb A) (hiLimb B)).lo (bitValue h (addValue (loLimb A) (loLimb B)).cf)).cf = true)

/-- For every width N and every limb width h: the reference computation by NOT, ADD 1, ADD and CMP gives the value
and the borrow of SUB, also with every step composed from two limbs. (R172) -/
def Obligations.SubByNegationIsSub : Prop :=
  (∀ (N : Nat) (A B : BitVec N), subRef A B = subValue A B) ∧
  (∀ (h : Nat) (A B : BitVec (h + h)), subLimbs A B = subValue A B)

/-- For each width, SUB and CMP at the same state answer next states with the same CF; and with B = 0 that CF is 0,
where the complement of the carry of A + ((~B + 1) mod 2^N) is 1. (R171) -/
def Obligations.BorrowOfSubIsBorrowOfCmp : Prop :=
  ∀ (n : Width) (s : State), ∃ t u : State,
    exec (instrOf .sub n) s = .next t ∧ exec (instrOf .cmp n) s = .next u ∧ t.cf = u.cf ∧
    (numB n.bits s = 0 → t.cf = false ∧
      (!(addValue (operand n.bits s.aL) (addValue (bitNot (operand n.bits s.bL)).lo 1).lo).cf) = true)

/-- For every limb width h and all A and B of width 2h, the four partial products and the ripple additions give the
low and the high half of the exact product. (R182) -/
def Obligations.MulFromLimbsIsMul : Prop :=
  ∀ (h : Nat) (A B : BitVec (h + h)), mulLimbs mulValue A B = mulValue A B

/-- For every width N, every A and every B ≠ 0 the normalise and restore loops give the quotient and the remainder
of DIVMOD; and so they do with every step composed from two limbs of width h. The loops run over counted steps,
which is the model's reading of the while loop (log entry 9, DEDUCED). (R192; R194) -/
def Obligations.RestoringDivisionDivides : Prop :=
  (∀ (N : Nat) (A B : BitVec N), B ≠ 0 → divmodRef A B = divmodValue A B) ∧
  (∀ (h : Nat) (A B : BitVec (h + h)), B ≠ 0 → divmodLimbs A B = divmodValue A B)

/-- For every width N ≥ 2, every A and every B ≠ 0. The loops run over counted steps, which is the model's reading
of the while loop (log entry 9, DEDUCED). (R193) -/
def Obligations.DivisionTakesOneToNIterations : Prop :=
  ∀ (N : Nat) (A B : BitVec N), 2 ≤ N → B ≠ 0 →
    1 ≤ divIterations A B ∧ divIterations A B ≤ N ∧
    (divIterations A B = N ↔ B = 1 ∧ 2 ^ (N - 1) ≤ A.toNat)

/-- The controller composes a command exactly where its width is 64 or 128, and for every command that it composes,
at 64 bits from 32-bit limbs and at 128 bits from 64-bit limbs (the 128-bit product from 64-bit products that
are themselves composed), and for all buses, the composed outcome is Exec of the command. (R111; R112) -/
def Obligations.ControllerIsNotObservable : Prop :=
  ∀ (i : Instr) (a b : Bus),
    ((composed i a b).isSome = true ↔ i.width = .w64 ∨ i.width = .w128) ∧
    ∀ o : CmdOutcome, composed i a b = some o → o = commandOutcome (encode i) a b

/-- For every width N and all A and B. The structures are the spec's reference passages from general knowledge.
(R163) -/
def Obligations.PrefixAddersAdd : Prop :=
  ∀ (N : Nat) (A B : BitVec N), prefixAdd A B = addValue A B ∧ koggeStoneAdd A B = addValue A B

/-- For every width N, every A and every distance 0 to 255. The structure is the spec's reference passage from
general knowledge. (R155) -/
def Obligations.BarrelShifterShifts : Prop :=
  ∀ (N : Nat) (A : BitVec N) (d : Distance), barrelShl A d = shlValue A d ∧ barrelShr A d = shrValue A d

/-- For every width N and all A and B; every digit lies between -2 and 2. The structure is the spec's reference
passage from general knowledge. (R183) -/
def Obligations.BoothMultiplierMultiplies : Prop :=
  ∀ (N : Nat) (A B : BitVec N), boothMul A B = mulValue A B ∧ ∀ j, -2 ≤ boothDigit B j ∧ boothDigit B j ≤ 2

/-- For every width N and all A and B. The structure is the spec's reference passage from general knowledge; that it
is built of layers of 3:2 counters over whole rows alone is the model's choice of a tree (log entry 9, DEDUCED).
(R183) -/
def Obligations.WallaceTreeMultiplies : Prop :=
  ∀ (N : Nat) (A B : BitVec N), wallaceMul A B = mulValue A B ∧ (reduceRows N (partialRows A B)).length ≤ 2

/-- For every width and all buses: INC gives A + 1 mod 2^N and its carry, NEG gives (2^N - A) mod 2^N, EQ, LT, LTE,
GT and GTE are true exactly as the unsigned order of A and B says, ISPOS exactly where A > 0, and TRUNC.k of a
width-N result v gives v mod 2^k for k 8, 16, 32, 64 with k ≤ N, and nothing for any other k. (R91) -/
def Obligations.PseudoInstructionsGiveTheirResults : Prop :=
  (∀ (n : Width) (a b : Bus), ∀ A B : Nat, A = a.toNat % 2 ^ n.bits → B = b.toNat % 2 ^ n.bits →
    pseudoInc n a = .ok (BitVec.ofNat 128 ((A + 1) % 2 ^ n.bits)) 0 (decide (2 ^ n.bits ≤ A + 1)) ∧
    (∃ cf, pseudoNeg n a = .ok (BitVec.ofNat 128 ((2 ^ n.bits - A) % 2 ^ n.bits)) 0 cf) ∧
    (pseudoEq n a b = true ↔ A = B) ∧ (pseudoLt n a b = true ↔ A < B) ∧ (pseudoLte n a b = true ↔ A ≤ B) ∧
    (pseudoGt n a b = true ↔ B < A) ∧ (pseudoGte n a b = true ↔ B ≤ A) ∧ (pseudoIsPos n a = true ↔ 0 < A)) ∧
  (∀ (n : Width) (k : Nat) (v : Bus),
    (k ∈ [8, 16, 32, 64] ∧ k ≤ n.bits → ∃ x : BitVec k, pseudoTrunc n k v = some x ∧ x.toNat = v.toNat % 2 ^ k) ∧
    (¬ (k ∈ [8, 16, 32, 64] ∧ k ≤ n.bits) → pseudoTrunc n k v = none))

/-- For every width and all buses, CMP of (A, B) gives RES_LO 2^N - 1 exactly where A < B, 0 exactly where A = B, 1
exactly where A > B; and CMP of (A, B) gives 1 if and only if CMP of (B, A) gives 2^N - 1. (R133) -/
def Obligations.ComparisonIsATotalOrder : Prop :=
  ∀ (n : Width) (a b : Bus), ∃ lo lo' : Bus, ∃ cf cf' : Bool,
    commandOutcome (wordOf .cmp n) a b = .ok lo 0 cf ∧ commandOutcome (wordOf .cmp n) b a = .ok lo' 0 cf' ∧
    (lo.toNat = 2 ^ n.bits - 1 ↔ a.toNat % 2 ^ n.bits < b.toNat % 2 ^ n.bits) ∧
    (lo = 0 ↔ a.toNat % 2 ^ n.bits = b.toNat % 2 ^ n.bits) ∧
    (lo = 1 ↔ b.toNat % 2 ^ n.bits < a.toNat % 2 ^ n.bits) ∧
    (lo = 1 ↔ lo'.toNat = 2 ^ n.bits - 1)

/-- For every width and all buses with B ≠ 0: with q and r the results of DIVMOD, the low half of MUL q, B plus r by
ADD is A with CF 0, the high half of MUL is 0, and CMP r, B gives CF 1. (95_test_vectors.md E6; R180; R190) -/
def Obligations.DivisionIsUndoneByMulAndAdd : Prop :=
  ∀ (n : Width) (a b : Bus), b.toNat % 2 ^ n.bits ≠ 0 → ∃ q r m code : Bus,
    commandOutcome (wordOf .divmod n) a b = .ok q r false ∧
    commandOutcome (wordOf .mul n) q b = .ok m 0 false ∧
    commandOutcome (wordOf .add n) m r = .ok (BitVec.ofNat 128 (a.toNat % 2 ^ n.bits)) 0 false ∧
    commandOutcome (wordOf .cmp n) r b = .ok code 0 true
end

