-- ==== Sys2Proof/Laws/State.lean ====
section
/-! SUPPORT. One lemma per field for each update of the state (Machine/Ops.lean, Machine/Edge.lean), so that no later proof
unfolds a record update. -/

namespace Sys2Proof.Machine

variable (s : State) (lat : Latency) (inp : Inputs) (o : CmdOutcome) (lo hi : Bus) (cf : Bool) (c : ErrCode)
  (nbits w : Nat)

@[simp] theorem State.writeOk_busy : (s.writeOutcome (.ok lo hi cf)).busy = s.busy := rfl
@[simp] theorem State.writeOk_done : (s.writeOutcome (.ok lo hi cf)).done = s.done := rfl
@[simp] theorem State.writeOk_resLo : (s.writeOutcome (.ok lo hi cf)).resLo = lo := rfl
@[simp] theorem State.writeOk_resHi : (s.writeOutcome (.ok lo hi cf)).resHi = hi := rfl
@[simp] theorem State.writeOk_cf : (s.writeOutcome (.ok lo hi cf)).cf = cf := rfl
@[simp] theorem State.writeOk_err : (s.writeOutcome (.ok lo hi cf)).err = 0 := rfl
@[simp] theorem State.writeOk_cmdL : (s.writeOutcome (.ok lo hi cf)).cmdL = s.cmdL := rfl
@[simp] theorem State.writeOk_aL : (s.writeOutcome (.ok lo hi cf)).aL = s.aL := rfl
@[simp] theorem State.writeOk_bL : (s.writeOutcome (.ok lo hi cf)).bL = s.bL := rfl
@[simp] theorem State.writeOk_cnt : (s.writeOutcome (.ok lo hi cf)).cnt = s.cnt := rfl
@[simp] theorem State.writeOk_live : (s.writeOutcome (.ok lo hi cf)).live = s.live := rfl
@[simp] theorem State.writeOk_ports : (s.writeOutcome (.ok lo hi cf)).ports = s.ports := rfl
@[simp] theorem State.writeOk_edgeNo : (s.writeOutcome (.ok lo hi cf)).edgeNo = s.edgeNo := rfl

@[simp] theorem State.writeErr_busy : (s.writeOutcome (.err c)).busy = s.busy := rfl
@[simp] theorem State.writeErr_done : (s.writeOutcome (.err c)).done = s.done := rfl
@[simp] theorem State.writeErr_resLo : (s.writeOutcome (.err c)).resLo = s.resLo := rfl
@[simp] theorem State.writeErr_resHi : (s.writeOutcome (.err c)).resHi = s.resHi := rfl
@[simp] theorem State.writeErr_cf : (s.writeOutcome (.err c)).cf = s.cf := rfl
@[simp] theorem State.writeErr_err : (s.writeOutcome (.err c)).err = errValue c := rfl
@[simp] theorem State.writeErr_cmdL : (s.writeOutcome (.err c)).cmdL = s.cmdL := rfl
@[simp] theorem State.writeErr_aL : (s.writeOutcome (.err c)).aL = s.aL := rfl
@[simp] theorem State.writeErr_bL : (s.writeOutcome (.err c)).bL = s.bL := rfl
@[simp] theorem State.writeErr_cnt : (s.writeOutcome (.err c)).cnt = s.cnt := rfl
@[simp] theorem State.writeErr_live : (s.writeOutcome (.err c)).live = s.live := rfl
@[simp] theorem State.writeErr_ports : (s.writeOutcome (.err c)).ports = s.ports := rfl
@[simp] theorem State.writeErr_edgeNo : (s.writeOutcome (.err c)).edgeNo = s.edgeNo := rfl

@[simp] theorem State.completeOk_resLo : (s.complete (.ok lo hi cf)).resLo = lo := rfl
@[simp] theorem State.completeOk_resHi : (s.complete (.ok lo hi cf)).resHi = hi := rfl
@[simp] theorem State.completeOk_cf : (s.complete (.ok lo hi cf)).cf = cf := rfl
@[simp] theorem State.completeOk_err : (s.complete (.ok lo hi cf)).err = 0 := rfl
@[simp] theorem State.completeErr_resLo : (s.complete (.err c)).resLo = s.resLo := rfl
@[simp] theorem State.completeErr_resHi : (s.complete (.err c)).resHi = s.resHi := rfl
@[simp] theorem State.completeErr_cf : (s.complete (.err c)).cf = s.cf := rfl
@[simp] theorem State.completeErr_err : (s.complete (.err c)).err = errValue c := rfl
@[simp] theorem State.complete_busy : (s.complete o).busy = false := rfl
@[simp] theorem State.complete_done : (s.complete o).done = true := rfl
@[simp] theorem State.complete_cnt : (s.complete o).cnt = 0 := rfl
@[simp] theorem State.complete_cmdL : (s.complete o).cmdL = s.cmdL := by cases o <;> rfl
@[simp] theorem State.complete_aL : (s.complete o).aL = s.aL := by cases o <;> rfl
@[simp] theorem State.complete_bL : (s.complete o).bL = s.bL := by cases o <;> rfl
@[simp] theorem State.complete_live : (s.complete o).live = s.live := by cases o <;> rfl
@[simp] theorem State.complete_ports : (s.complete o).ports = s.ports := by cases o <;> rfl
@[simp] theorem State.complete_edgeNo : (s.complete o).edgeNo = s.edgeNo := by cases o <;> rfl

@[simp] theorem State.accept_busy : (s.accept lat inp).busy = true := rfl
@[simp] theorem State.accept_done : (s.accept lat inp).done = false := rfl
@[simp] theorem State.accept_resLo : (s.accept lat inp).resLo = s.resLo := rfl
@[simp] theorem State.accept_resHi : (s.accept lat inp).resHi = s.resHi := rfl
@[simp] theorem State.accept_cf : (s.accept lat inp).cf = s.cf := rfl
@[simp] theorem State.accept_err : (s.accept lat inp).err = s.err := rfl
@[simp] theorem State.accept_cmdL : (s.accept lat inp).cmdL = inp.cmdWord := rfl
@[simp] theorem State.accept_aL : (s.accept lat inp).aL = inp.opa := rfl
@[simp] theorem State.accept_bL : (s.accept lat inp).bL = inp.opb := rfl
@[simp] theorem State.accept_cnt : (s.accept lat inp).cnt = lat inp.cmdWord inp.opa inp.opb := rfl
@[simp] theorem State.accept_live : (s.accept lat inp).live = s.live := rfl
@[simp] theorem State.accept_ports : (s.accept lat inp).ports = s.ports := rfl
@[simp] theorem State.accept_edgeNo : (s.accept lat inp).edgeNo = s.edgeNo := rfl

@[simp] theorem State.countDown_busy : (s.countDown).busy = s.busy := rfl
@[simp] theorem State.countDown_done : (s.countDown).done = false := rfl
@[simp] theorem State.countDown_resLo : (s.countDown).resLo = s.resLo := rfl
@[simp] theorem State.countDown_resHi : (s.countDown).resHi = s.resHi := rfl
@[simp] theorem State.countDown_cf : (s.countDown).cf = s.cf := rfl
@[simp] theorem State.countDown_err : (s.countDown).err = s.err := rfl
@[simp] theorem State.countDown_cmdL : (s.countDown).cmdL = s.cmdL := rfl
@[simp] theorem State.countDown_aL : (s.countDown).aL = s.aL := rfl
@[simp] theorem State.countDown_bL : (s.countDown).bL = s.bL := rfl
@[simp] theorem State.countDown_cnt : (s.countDown).cnt = s.cnt - 1 := rfl
@[simp] theorem State.countDown_live : (s.countDown).live = s.live := rfl
@[simp] theorem State.countDown_ports : (s.countDown).ports = s.ports := rfl
@[simp] theorem State.countDown_edgeNo : (s.countDown).edgeNo = s.edgeNo := rfl

@[simp] theorem State.idle_busy : (s.idle).busy = s.busy := rfl
@[simp] theorem State.idle_done : (s.idle).done = false := rfl
@[simp] theorem State.idle_resLo : (s.idle).resLo = s.resLo := rfl
@[simp] theorem State.idle_resHi : (s.idle).resHi = s.resHi := rfl
@[simp] theorem State.idle_cf : (s.idle).cf = s.cf := rfl
@[simp] theorem State.idle_err : (s.idle).err = s.err := rfl
@[simp] theorem State.idle_cmdL : (s.idle).cmdL = s.cmdL := rfl
@[simp] theorem State.idle_aL : (s.idle).aL = s.aL := rfl
@[simp] theorem State.idle_bL : (s.idle).bL = s.bL := rfl
@[simp] theorem State.idle_cnt : (s.idle).cnt = s.cnt := rfl
@[simp] theorem State.idle_live : (s.idle).live = s.live := rfl
@[simp] theorem State.idle_ports : (s.idle).ports = s.ports := rfl
@[simp] theorem State.idle_edgeNo : (s.idle).edgeNo = s.edgeNo := rfl

@[simp] theorem State.tick_busy : (s.tick).busy = s.busy := rfl
@[simp] theorem State.tick_done : (s.tick).done = s.done := rfl
@[simp] theorem State.tick_resLo : (s.tick).resLo = s.resLo := rfl
@[simp] theorem State.tick_resHi : (s.tick).resHi = s.resHi := rfl
@[simp] theorem State.tick_cf : (s.tick).cf = s.cf := rfl
@[simp] theorem State.tick_err : (s.tick).err = s.err := rfl
@[simp] theorem State.tick_cmdL : (s.tick).cmdL = s.cmdL := rfl
@[simp] theorem State.tick_aL : (s.tick).aL = s.aL := rfl
@[simp] theorem State.tick_bL : (s.tick).bL = s.bL := rfl
@[simp] theorem State.tick_cnt : (s.tick).cnt = s.cnt := rfl
@[simp] theorem State.tick_live : (s.tick).live = s.live := rfl
@[simp] theorem State.tick_ports : (s.tick).ports = s.ports := rfl
@[simp] theorem State.tick_edgeNo : (s.tick).edgeNo = s.edgeNo + 1 := rfl

@[simp] theorem State.resetEdge_busy : (s.resetEdge).busy = false := rfl
@[simp] theorem State.resetEdge_done : (s.resetEdge).done = false := rfl
@[simp] theorem State.resetEdge_resLo : (s.resetEdge).resLo = 0 := rfl
@[simp] theorem State.resetEdge_resHi : (s.resetEdge).resHi = 0 := rfl
@[simp] theorem State.resetEdge_cf : (s.resetEdge).cf = false := rfl
@[simp] theorem State.resetEdge_err : (s.resetEdge).err = 0 := rfl
@[simp] theorem State.resetEdge_cmdL : (s.resetEdge).cmdL = Config.freeCmdL s.edgeNo := rfl
@[simp] theorem State.resetEdge_aL : (s.resetEdge).aL = Config.freeAL s.edgeNo := rfl
@[simp] theorem State.resetEdge_bL : (s.resetEdge).bL = Config.freeBL s.edgeNo := rfl
@[simp] theorem State.resetEdge_cnt : (s.resetEdge).cnt = 0 := rfl
@[simp] theorem State.resetEdge_live : (s.resetEdge).live = true := rfl
@[simp] theorem State.resetEdge_ports : (s.resetEdge).ports = s.ports := rfl
@[simp] theorem State.resetEdge_edgeNo : (s.resetEdge).edgeNo = s.edgeNo + 1 := rfl

@[simp] theorem State.popSample_busy : (s.popSample).busy = s.busy := rfl
@[simp] theorem State.popSample_done : (s.popSample).done = s.done := rfl
@[simp] theorem State.popSample_resLo : (s.popSample).resLo = s.resLo := rfl
@[simp] theorem State.popSample_resHi : (s.popSample).resHi = s.resHi := rfl
@[simp] theorem State.popSample_cf : (s.popSample).cf = s.cf := rfl
@[simp] theorem State.popSample_err : (s.popSample).err = s.err := rfl
@[simp] theorem State.popSample_cmdL : (s.popSample).cmdL = s.cmdL := rfl
@[simp] theorem State.popSample_aL : (s.popSample).aL = s.aL := rfl
@[simp] theorem State.popSample_bL : (s.popSample).bL = s.bL := rfl
@[simp] theorem State.popSample_cnt : (s.popSample).cnt = s.cnt := rfl
@[simp] theorem State.popSample_live : (s.popSample).live = s.live := rfl
@[simp] theorem State.popSample_ports : (s.popSample).ports = s.ports.tail := rfl
@[simp] theorem State.popSample_edgeNo : (s.popSample).edgeNo = s.edgeNo := rfl

@[simp] theorem State.withFetchWord_busy : (s.withFetchWord nbits w).busy = true := rfl
@[simp] theorem State.withFetchWord_done : (s.withFetchWord nbits w).done = s.done := rfl
@[simp] theorem State.withFetchWord_resLo : (s.withFetchWord nbits w).resLo = s.resLo := rfl
@[simp] theorem State.withFetchWord_resHi : (s.withFetchWord nbits w).resHi = s.resHi := rfl
@[simp] theorem State.withFetchWord_cf : (s.withFetchWord nbits w).cf = s.cf := rfl
@[simp] theorem State.withFetchWord_err : (s.withFetchWord nbits w).err = s.err := rfl
@[simp] theorem State.withFetchWord_cmdL : (s.withFetchWord nbits w).cmdL = BitVec.ofNat 16 (w % 2 ^ nbits) := rfl
@[simp] theorem State.withFetchWord_aL : (s.withFetchWord nbits w).aL = s.aL := rfl
@[simp] theorem State.withFetchWord_bL : (s.withFetchWord nbits w).bL = s.bL := rfl
@[simp] theorem State.withFetchWord_cnt : (s.withFetchWord nbits w).cnt = 1 := rfl
@[simp] theorem State.withFetchWord_live : (s.withFetchWord nbits w).live = true := rfl
@[simp] theorem State.withFetchWord_ports : (s.withFetchWord nbits w).ports = noCommand :: s.ports := rfl
@[simp] theorem State.withFetchWord_edgeNo : (s.withFetchWord nbits w).edgeNo = s.edgeNo := rfl

/-- The sample of the next edge is the first one listed. -/
theorem State.sample_cons (rest : List Inputs) (h : s.ports = inp :: rest) : s.sample = inp := by
  simp [State.sample, h]

/-- Where none is listed, it is what the host drives. -/
theorem State.sample_nil (h : s.ports = []) : s.sample = Config.hostDrive s.edgeNo := by
  simp [State.sample, h]

/-- The latency is at least 1 (40_engine.md R109). -/
theorem Config_LAT_pos (cmd : CmdWord) (a b : Bus) : 1 ≤ Config.LAT cmd a b := Nat.le_add_left 1 _

end Sys2Proof.Machine
end

