-- ==== Sys2Proof/Laws/Edge.lean ====
section
/-! SUPPORT. What a command, a completion and an edge can do, said once (Machine/Dispatch.lean, Machine/Edge.lean). -/

namespace Sys2Proof.Machine

/-- Every command ends by completing with some outcome: none faults and none is refused. -/
theorem exec_completes (i : Instr) (s : State) : ∃ o, exec i s = .next (s.complete o) := by
  cases i <;> exact ⟨_, rfl⟩

/-- So does a completion edge, whatever word is latched. -/
theorem completionEdge_completes (s : State) : ∃ o, completionEdge s = .next (s.complete o) := by
  unfold completionEdge
  split
  · exact exec_completes _ s
  · exact ⟨_, rfl⟩

/-- The six edges that answer a next state (40_engine.md R106). -/
theorem edge_next_cases {lat : Latency} {inp : Inputs} {s t : State} (h : edge lat inp s = .next t) :
    (inp.rst = true ∧ t = s.resetEdge) ∨
    (inp.rst = false ∧ s.live = false ∧ inp.cmdValid = false ∧ t = s.tick) ∨
    (inp.rst = false ∧ s.live = true ∧ s.busy = false ∧ inp.cmdValid = false ∧ t = s.tick.idle) ∨
    (inp.rst = false ∧ s.live = true ∧ s.busy = false ∧ inp.cmdValid = true ∧ t = s.tick.accept lat inp) ∨
    (inp.rst = false ∧ s.live = true ∧ s.busy = true ∧ s.cnt ≠ 1 ∧ t = s.tick.countDown) ∨
    (inp.rst = false ∧ s.live = true ∧ s.busy = true ∧ s.cnt = 1 ∧
      completionEdge s.tick = .next t ∧ ∃ o, t = s.tick.complete o) := by
  unfold edge liveEdge at h
  obtain ⟨o, ho⟩ := completionEdge_completes s.tick
  cases hr : inp.rst <;> cases hl : s.live <;> cases hv : inp.cmdValid <;> cases hb : s.busy <;>
    by_cases hc : s.cnt = 1 <;> simp_all <;> exact ⟨o, h.symm⟩

/-- An edge faults only before the first reset, when a command is presented (10_state.md R49). -/
theorem edge_fault {lat : Latency} {inp : Inputs} {s : State} {f : Fault} (h : edge lat inp s = .fault f) :
    inp.rst = false ∧ s.live = false ∧ inp.cmdValid = true ∧ f = .commandBeforeReset := by
  unfold edge liveEdge at h
  obtain ⟨o, ho⟩ := completionEdge_completes s.tick
  cases hr : inp.rst <;> cases hl : s.live <;> cases hv : inp.cmdValid <;> cases hb : s.busy <;>
    by_cases hc : s.cnt = 1 <;> simp_all

/-- No edge is refused. -/
theorem edge_not_refused (lat : Latency) (inp : Inputs) (s : State) (r : Refusal) : edge lat inp s ≠ .refused r := by
  intro h
  unfold edge liveEdge at h
  obtain ⟨o, ho⟩ := completionEdge_completes s.tick
  cases hr : inp.rst <;> cases hl : s.live <;> cases hv : inp.cmdValid <;> cases hb : s.busy <;>
    by_cases hc : s.cnt = 1 <;> simp_all

/-- A row of edges is its first edge and then the rest. -/
theorem edges_cons_next {lat : Latency} {inp : Inputs} {rest : List Inputs} {s t : State}
    (h : edge lat inp s = .next t) : edges lat (inp :: rest) s = edges lat rest t := by
  simp [edges, h]

end Sys2Proof.Machine
end

