-- ==== Sys2Proof/Laws/PerInstr.lean ====
section
/-! SUPPORT. Facts about every command as syntax, one lemma per constructor. -/

/-- The family: the word of a command is legal, and it is put together from the command's operation and width
(30_encoding.md R80 to R83, R88). -/
def Sys2Proof.Laws.WordIsLegal.Statement (i : Sys2Proof.Instr) : Prop :=
  Sys2Proof.legal (Sys2Proof.encode i) = true ∧ Sys2Proof.wordOf i.op i.width = Sys2Proof.encode i

namespace Sys2Proof.Laws.WordIsLegal

theorem cmpW8 : Statement .cmpW8 := by unfold Statement; decide
theorem cmpW16 : Statement .cmpW16 := by unfold Statement; decide
theorem cmpW32 : Statement .cmpW32 := by unfold Statement; decide
theorem cmpW64 : Statement .cmpW64 := by unfold Statement; decide
theorem cmpW128 : Statement .cmpW128 := by unfold Statement; decide
theorem notW8 : Statement .notW8 := by unfold Statement; decide
theorem notW16 : Statement .notW16 := by unfold Statement; decide
theorem notW32 : Statement .notW32 := by unfold Statement; decide
theorem notW64 : Statement .notW64 := by unfold Statement; decide
theorem notW128 : Statement .notW128 := by unfold Statement; decide
theorem andW8 : Statement .andW8 := by unfold Statement; decide
theorem andW16 : Statement .andW16 := by unfold Statement; decide
theorem andW32 : Statement .andW32 := by unfold Statement; decide
theorem andW64 : Statement .andW64 := by unfold Statement; decide
theorem andW128 : Statement .andW128 := by unfold Statement; decide
theorem orW8 : Statement .orW8 := by unfold Statement; decide
theorem orW16 : Statement .orW16 := by unfold Statement; decide
theorem orW32 : Statement .orW32 := by unfold Statement; decide
theorem orW64 : Statement .orW64 := by unfold Statement; decide
theorem orW128 : Statement .orW128 := by unfold Statement; decide
theorem xorW8 : Statement .xorW8 := by unfold Statement; decide
theorem xorW16 : Statement .xorW16 := by unfold Statement; decide
theorem xorW32 : Statement .xorW32 := by unfold Statement; decide
theorem xorW64 : Statement .xorW64 := by unfold Statement; decide
theorem xorW128 : Statement .xorW128 := by unfold Statement; decide
theorem shlW8 : Statement .shlW8 := by unfold Statement; decide
theorem shlW16 : Statement .shlW16 := by unfold Statement; decide
theorem shlW32 : Statement .shlW32 := by unfold Statement; decide
theorem shlW64 : Statement .shlW64 := by unfold Statement; decide
theorem shlW128 : Statement .shlW128 := by unfold Statement; decide
theorem shrW8 : Statement .shrW8 := by unfold Statement; decide
theorem shrW16 : Statement .shrW16 := by unfold Statement; decide
theorem shrW32 : Statement .shrW32 := by unfold Statement; decide
theorem shrW64 : Statement .shrW64 := by unfold Statement; decide
theorem shrW128 : Statement .shrW128 := by unfold Statement; decide
theorem addW8 : Statement .addW8 := by unfold Statement; decide
theorem addW16 : Statement .addW16 := by unfold Statement; decide
theorem addW32 : Statement .addW32 := by unfold Statement; decide
theorem addW64 : Statement .addW64 := by unfold Statement; decide
theorem addW128 : Statement .addW128 := by unfold Statement; decide
theorem subW8 : Statement .subW8 := by unfold Statement; decide
theorem subW16 : Statement .subW16 := by unfold Statement; decide
theorem subW32 : Statement .subW32 := by unfold Statement; decide
theorem subW64 : Statement .subW64 := by unfold Statement; decide
theorem subW128 : Statement .subW128 := by unfold Statement; decide
theorem mulW8 : Statement .mulW8 := by unfold Statement; decide
theorem mulW16 : Statement .mulW16 := by unfold Statement; decide
theorem mulW32 : Statement .mulW32 := by unfold Statement; decide
theorem mulW64 : Statement .mulW64 := by unfold Statement; decide
theorem mulW128 : Statement .mulW128 := by unfold Statement; decide
theorem divmodW8 : Statement .divmodW8 := by unfold Statement; decide
theorem divmodW16 : Statement .divmodW16 := by unfold Statement; decide
theorem divmodW32 : Statement .divmodW32 := by unfold Statement; decide
theorem divmodW64 : Statement .divmodW64 := by unfold Statement; decide
theorem divmodW128 : Statement .divmodW128 := by unfold Statement; decide

end Sys2Proof.Laws.WordIsLegal
end

