-- ==== Sys2Proof/Laws/Values.lean ====
section
/-! SUPPORT. One lemma for each operand form, each flag and each value of an operation, as numbers (Machine/Operands.lean,
Machine/Flags.lean and the family files). -/

namespace Sys2Proof.Machine

variable {N : Nat} (A B : BitVec N) (d : Distance)

@[simp] theorem operand_toNat (N : Nat) (bus : Bus) : (operand N bus).toNat = bus.toNat % 2 ^ N := by
  simp [operand]

@[simp] theorem distance_toNat (bus : Bus) : (distance bus).toNat = bus.toNat % 256 := by
  simp [distance]

/-- A result of at most 128 bits keeps its number when it is zero-extended (40_engine.md R101). -/
theorem zext128_toNat (v : BitVec N) (h : N ≤ 128) : (zext128 v).toNat = v.toNat := by
  have := Nat.pow_le_pow_right (n := 2) (by decide) h
  simp only [zext128, BitVec.toNat_setWidth]
  exact Nat.mod_eq_of_lt (Nat.lt_of_lt_of_le v.isLt this)

theorem hiLimb_toNat {h : Nat} (v : BitVec (h + h)) : (hiLimb v).toNat = v.toNat / 2 ^ h := by
  have hv := v.isLt
  rw [Nat.pow_add] at hv
  simp only [hiLimb, BitVec.extractLsb'_toNat, Nat.shiftRight_eq_div_pow]
  exact Nat.mod_eq_of_lt (Nat.div_lt_of_lt_mul hv)

theorem loLimb_toNat {h : Nat} (v : BitVec (h + h)) : (loLimb v).toNat = v.toNat % 2 ^ h := by
  simp [loLimb]

theorem carryOut_eq_true : carryOut A B = true ↔ 2 ^ N ≤ A.toNat + B.toNat := by simp [carryOut]

theorem borrow_eq_true : borrow A B = true ↔ A.toNat < B.toNat := by simp [borrow]

@[simp] theorem plainResult_lo : (plainResult A).lo = A := rfl

@[simp] theorem plainResult_hi : (plainResult A).hi = 0 := rfl

@[simp] theorem plainResult_cf : (plainResult A).cf = false := rfl

@[simp] theorem addValue_lo_toNat : (addValue A B).lo.toNat = (A.toNat + B.toNat) % 2 ^ N := by
  simp [addValue]

@[simp] theorem addValue_hi : (addValue A B).hi = 0 := rfl

@[simp] theorem addValue_cf : (addValue A B).cf = carryOut A B := rfl

@[simp] theorem subValue_lo_toNat : (subValue A B).lo.toNat = (A.toNat + 2 ^ N - B.toNat) % 2 ^ N := by
  simp [subValue]

@[simp] theorem subValue_hi : (subValue A B).hi = 0 := rfl

@[simp] theorem subValue_cf : (subValue A B).cf = borrow A B := rfl

@[simp] theorem cmpValue_hi : (cmpValue A B).hi = 0 := rfl

@[simp] theorem cmpValue_cf : (cmpValue A B).cf = borrow A B := rfl

@[simp] theorem mulValue_lo_toNat : (mulValue A B).lo.toNat = A.toNat * B.toNat % 2 ^ N := by
  simp [mulValue]

theorem mulValue_hi_toNat : (mulValue A B).hi.toNat = A.toNat * B.toNat / 2 ^ N := by
  simp only [mulValue, BitVec.toNat_ofNat]
  refine Nat.mod_eq_of_lt (Nat.div_lt_of_lt_mul ?_)
  exact Nat.mul_lt_mul'' A.isLt B.isLt

@[simp] theorem mulValue_cf : (mulValue A B).cf = false := rfl

theorem divmodValue_lo_toNat : (divmodValue A B).lo.toNat = A.toNat / B.toNat := by
  simp only [divmodValue, BitVec.toNat_ofNat]
  exact Nat.mod_eq_of_lt (Nat.lt_of_le_of_lt (Nat.div_le_self _ _) A.isLt)

theorem divmodValue_hi_toNat : (divmodValue A B).hi.toNat = A.toNat % B.toNat := by
  simp only [divmodValue, BitVec.toNat_ofNat]
  rw [Nat.mod_eq_of_lt (Nat.lt_of_le_of_lt (Nat.sub_le _ _) A.isLt)]
  have := Nat.div_add_mod A.toNat B.toNat
  rw [Nat.mul_comm] at this
  omega

@[simp] theorem divmodValue_cf : (divmodValue A B).cf = false := rfl

end Sys2Proof.Machine
end

