-- ==== Sys2Proof/Machine/HostProgram.lean ====
section
/-! DEFINITION. The host's side as far as the spec gives it: driving a written command (30_encoding.md R89) and the host
program notation (30_encoding.md R90), with the handshake of 70_reset_and_hazards.md R235 and R236. None of these is a
command of the core, and the core's step uses none of them. -/

namespace Sys2Proof.Machine

/-- What the assembler drives for a written command, and an error where it is ill formed (30_encoding.md R89). -/
def assemble (c : Command) : Option Inputs :=
  if c.wellFormed then some (present (encode c.instr) (BitVec.ofNat 128 c.a) (BitVec.ofNat 128 c.b)) else none

/-- An operand of a host program's command: a literal or a host register (30_encoding.md R89). -/
inductive HostArg where
  | lit (v : Bus)
  | reg (r : Fin 16)
  deriving DecidableEq, Repr

/-- The source of a MOV (30_encoding.md R90). -/
inductive HostSource where
  | arg (x : HostArg)
  | resLo
  | resHi
  | cf
  | err
  deriving DecidableEq, Repr

/-- A line of a host program; a label is the index of its line (30_encoding.md R90). -/
inductive HostOp where
  | cmd (word : CmdWord) (a b : HostArg)
  | mov (dst : Fin 16) (src : HostSource)
  | beq (r : Fin 16) (lit : Bus) (label : Nat)
  | bne (r : Fin 16) (lit : Bus) (label : Nat)
  | jmp (label : Nat)
  | halt
  deriving DecidableEq, Repr

/-- The host: its registers h0 to h15 (30_encoding.md R90), the line it is at, and whether the command of that line has
been accepted. -/
structure HostState where
  regs : Vector Bus 16
  line : Nat
  waiting : Bool
  deriving DecidableEq, Repr

/-- The value of an operand. -/
def HostState.value (h : HostState) : HostArg → Bus
  | .lit v => v
  | .reg r => h.regs.get r

/-- The value a MOV takes; CF and ERR are zero-extended (30_encoding.md R90). -/
def HostState.source (h : HostState) (out : Outputs) : HostSource → Bus
  | .arg x => h.value x
  | .resLo => out.resLo
  | .resHi => out.resHi
  | .cf => BitVec.ofNat 128 out.resCf.toNat
  | .err => out.resErr.setWidth 128

/-- The host goes on to a line. -/
def HostState.goto (h : HostState) (n : Nat) : HostState := { h with line := n, waiting := false }

/-- An edge of the core under what the host drives, and the host after it. -/
def hostEdge (lat : Latency) (inp : Inputs) (h : HostState) (s : State) :
    Host.Outcome (HostState × State) Fault Refusal :=
  match edge lat inp s with
  | .next s' => .next (h, s')
  | .fault f => .fault f
  | .refused r => .refused r

/-- One move of the host (30_encoding.md R90). A CMD presents its command until an accept edge, which is an edge at which
`cmd_ready` was 1, then drives nothing until it sees `busy = 0` (70_reset_and_hazards.md R235, R236); each of its moves
but the last is one edge. MOV and the branches read the outputs and take no edge. HALT, and a line past the end, stay. -/
def hostStep (lat : Latency) (program : List HostOp) (h : HostState) (s : State) :
    Host.Outcome (HostState × State) Fault Refusal :=
  match s.readOutputs with
  | .fault f => .fault f
  | .refused r => .refused r
  | .next out =>
    match program[h.line]? with
    | none | some .halt => .next (h, s)
    | some (.cmd word a b) =>
      if h.waiting then
        if out.busy then hostEdge lat noCommand h s else .next (h.goto (h.line + 1), s)
      else hostEdge lat (present word (h.value a) (h.value b)) { h with waiting := out.cmdReady } s
    | some (.mov dst src) => .next ({ h with regs := h.regs.set dst (h.source out src) }.goto (h.line + 1), s)
    | some (.beq r lit label) =>
      .next (h.goto (if h.regs.get r = lit then label else h.line + 1), s)
    | some (.bne r lit label) =>
      .next (h.goto (if h.regs.get r = lit then h.line + 1 else label), s)
    | some (.jmp label) => .next (h.goto label, s)

end Sys2Proof.Machine
end

