-- ==== Sys2Proof/Machine/Timing.lean ====
section
/-! DEFINITION. The recommended latencies (70_reset_and_hazards.md R242), which are not normative: no rule and no
definition of the step depends on them. -/

namespace Sys2Proof.Machine

/-- The least and the greatest recommended latency of a command word (70_reset_and_hazards.md R242). -/
def recommendedLatency (cmd : CmdWord) (a b : Bus) : Nat × Nat :=
  match decode cmd with
  | .error _ => (1, 1)
  | .ok i =>
    match i.op with
    | .cmp | .not | .and | .or | .xor | .shl | .shr | .add | .sub => (1, 1)
    | .mul =>
      match i.width with
      | .w8 | .w16 | .w32 => (1, 1)
      | .w64 => (1, 4)
      | .w128 => (1, 16)
    | .divmod =>
      let N := i.width.bits
      if operand N b = 0 then (1, 1)
      else
        let n := 1 + divIterations (operand N a) (operand N b)
        (n, n)

/-- A latency function that follows the recommendation (70_reset_and_hazards.md R242). -/
def followsRecommendation (lat : Latency) : Prop :=
  ∀ cmd a b, (recommendedLatency cmd a b).1 ≤ lat cmd a b ∧ lat cmd a b ≤ (recommendedLatency cmd a b).2

end Sys2Proof.Machine
end

