-- ==== Sys2Proof/Tests/Slice0.lean ====
section
/-! SUPPORT. The model's own tests. Every expected result is taken from spec/ (its word table, its test vectors, its worked
examples) or calculated by hand from the rule named; and for every statement with hypotheses a witness that meets
them. -/

namespace Sys2Proof.Tests

open Sys2Proof Sys2Proof.Machine Sys2Proof.Claims

/-! ### Well-formed commands (30_encoding.md R89) -/

theorem test_wellFormed_accepts : (Command.mk .shlW128 (2 ^ 128 - 1) 255).wellFormed = true := by decide

theorem test_wellFormed_refuses_wide_a : (Command.mk .notW8 256 0).wellFormed = false := by decide

theorem test_wellFormed_refuses_wide_b : (Command.mk .addW16 1 65536).wellFormed = false := by decide

theorem test_wellFormed_refuses_wide_distance : (Command.mk .shrW64 1 256).wellFormed = false := by decide

theorem test_wellFormed_refuses_second_operand_of_not : (Command.mk .notW8 1 1).wellFormed = false := by decide

/-! ### Decoding: every word of the table of 30_encoding.md R88, bit by bit RSV1 OP RSV0 W -/

theorem test_decode_cmp :
    decode 0b00000000_0001_0_000 = .ok .cmpW8 ∧
    decode 0b00000000_0001_0_001 = .ok .cmpW16 ∧
    decode 0b00000000_0001_0_010 = .ok .cmpW32 ∧
    decode 0b00000000_0001_0_011 = .ok .cmpW64 ∧
    decode 0b00000000_0001_0_100 = .ok .cmpW128 := by
  decide

theorem test_decode_not :
    decode 0b00000000_0010_0_000 = .ok .notW8 ∧
    decode 0b00000000_0010_0_001 = .ok .notW16 ∧
    decode 0b00000000_0010_0_010 = .ok .notW32 ∧
    decode 0b00000000_0010_0_011 = .ok .notW64 ∧
    decode 0b00000000_0010_0_100 = .ok .notW128 := by
  decide

theorem test_decode_and :
    decode 0b00000000_0011_0_000 = .ok .andW8 ∧
    decode 0b00000000_0011_0_001 = .ok .andW16 ∧
    decode 0b00000000_0011_0_010 = .ok .andW32 ∧
    decode 0b00000000_0011_0_011 = .ok .andW64 ∧
    decode 0b00000000_0011_0_100 = .ok .andW128 := by
  decide

theorem test_decode_or :
    decode 0b00000000_0100_0_000 = .ok .orW8 ∧
    decode 0b00000000_0100_0_001 = .ok .orW16 ∧
    decode 0b00000000_0100_0_010 = .ok .orW32 ∧
    decode 0b00000000_0100_0_011 = .ok .orW64 ∧
    decode 0b00000000_0100_0_100 = .ok .orW128 := by
  decide

theorem test_decode_xor :
    decode 0b00000000_0101_0_000 = .ok .xorW8 ∧
    decode 0b00000000_0101_0_001 = .ok .xorW16 ∧
    decode 0b00000000_0101_0_010 = .ok .xorW32 ∧
    decode 0b00000000_0101_0_011 = .ok .xorW64 ∧
    decode 0b00000000_0101_0_100 = .ok .xorW128 := by
  decide

theorem test_decode_shl :
    decode 0b00000000_0110_0_000 = .ok .shlW8 ∧
    decode 0b00000000_0110_0_001 = .ok .shlW16 ∧
    decode 0b00000000_0110_0_010 = .ok .shlW32 ∧
    decode 0b00000000_0110_0_011 = .ok .shlW64 ∧
    decode 0b00000000_0110_0_100 = .ok .shlW128 := by
  decide

theorem test_decode_shr :
    decode 0b00000000_0111_0_000 = .ok .shrW8 ∧
    decode 0b00000000_0111_0_001 = .ok .shrW16 ∧
    decode 0b00000000_0111_0_010 = .ok .shrW32 ∧
    decode 0b00000000_0111_0_011 = .ok .shrW64 ∧
    decode 0b00000000_0111_0_100 = .ok .shrW128 := by
  decide

theorem test_decode_add :
    decode 0b00000000_1000_0_000 = .ok .addW8 ∧
    decode 0b00000000_1000_0_001 = .ok .addW16 ∧
    decode 0b00000000_1000_0_010 = .ok .addW32 ∧
    decode 0b00000000_1000_0_011 = .ok .addW64 ∧
    decode 0b00000000_1000_0_100 = .ok .addW128 := by
  decide

theorem test_decode_sub :
    decode 0b00000000_1001_0_000 = .ok .subW8 ∧
    decode 0b00000000_1001_0_001 = .ok .subW16 ∧
    decode 0b00000000_1001_0_010 = .ok .subW32 ∧
    decode 0b00000000_1001_0_011 = .ok .subW64 ∧
    decode 0b00000000_1001_0_100 = .ok .subW128 := by
  decide

theorem test_decode_mul :
    decode 0b00000000_1010_0_000 = .ok .mulW8 ∧
    decode 0b00000000_1010_0_001 = .ok .mulW16 ∧
    decode 0b00000000_1010_0_010 = .ok .mulW32 ∧
    decode 0b00000000_1010_0_011 = .ok .mulW64 ∧
    decode 0b00000000_1010_0_100 = .ok .mulW128 := by
  decide

theorem test_decode_divmod :
    decode 0b00000000_1011_0_000 = .ok .divmodW8 ∧
    decode 0b00000000_1011_0_001 = .ok .divmodW16 ∧
    decode 0b00000000_1011_0_010 = .ok .divmodW32 ∧
    decode 0b00000000_1011_0_011 = .ok .divmodW64 ∧
    decode 0b00000000_1011_0_100 = .ok .divmodW128 := by
  decide

/-- 30_encoding.md R83; vectors VE1, VE4, VE7 and VE9 of 95_test_vectors.md. -/
theorem test_decode_refuses_by_name :
    decode 0x0000 = .error .reservedOpcode ∧ decode 0x0018 = .error .rsv0NotZero ∧
    decode 0x0110 = .error .rsv1NotZero ∧ decode 0x00B7 = .error .reservedWidth := by
  decide

theorem test_decodeTableWord : decodeTableWord 16 0x00A4 = some .mulW128 ∧ decodeTableWord 8 0x00A4 = some .mulW128 ∧
    decodeTableWord 32 0x00A4 = none ∧ decodeTableWord 16 0xFFFF = none := by
  decide

theorem test_mnemonic : Instr.mnemonic .divmodW128 = "DIVMOD.W128" := by decide

/-! ### One step at the completion edge, on the vectors of 95_test_vectors.md L2

The state before holds 0xAA, 0xBB and CF = 1 in the results, so that "unchanged" shows. -/

/-- A state before a completion: the operands latched, earlier results in the result registers. -/
def before (a b : Bus) : State := { State.reset with aL := a, bL := b, resLo := 0xAA, resHi := 0xBB, cf := true }

/-- What a host reads after the step that runs `word`: RES_LO, RES_HI, CF and ERR. -/
def results (word : Nat) (a b : Bus) : Option (Bus × Bus × Bool × BitVec 2) :=
  match step ((before a b).withFetchWord 16 word) with
  | .next t => if t.busy = false ∧ t.done = true ∧ t.cnt = 0 then some (t.resLo, t.resHi, t.cf, t.err) else none
  | _ => none

/-- A vector: word, opa, opb and the results expected. -/
abbrev TestRow := Nat × Bus × Bus × Bus × Bus × Bool × BitVec 2

/-- The step gives the vector's results. -/
def agrees : TestRow → Bool
  | (word, a, b, lo, hi, cf, err) => decide (results word a b = some (lo, hi, cf, err))

/-- Vectors VC1 to VC12; the last 1 calculated by hand from 41_compare.md R130. -/
def cmpVectors : List TestRow :=
  [(0x0010, 5, 7, 0xff, 0, true, 0),
   (0x0010, 7, 5, 1, 0, false, 0),
   (0x0010, 5, 5, 0, 0, false, 0),
   (0x0010, 0x80, 0x7f, 1, 0, false, 0),
   (0x0010, 0x7f, 0x80, 0xff, 0, true, 0),
   (0x0010, 0xff, 0xfe, 1, 0, false, 0),
   (0x0011, 0x10005, 5, 0, 0, false, 0),
   (0x0013, 0x8000000000000000, 0x7fffffffffffffff, 1, 0, false, 0),
   (0x0014, 0x10000000000000000, 0xffffffffffffffff, 1, 0, false, 0),
   (0x0014, 0, 0xffffffffffffffffffffffffffffffff, 0xffffffffffffffffffffffffffffffff, 0, true, 0),
   (0x0014, 0xffffffffffffffffffffffffffffffff, 0xffffffffffffffffffffffffffffffff, 0, 0, false, 0),
   (0x0014, 0x50000000000000001, 0x50000000000000002, 0xffffffffffffffffffffffffffffffff, 0, true, 0),
   (0x0012, 0x80000000, 0x7fffffff, 1, 0, false, 0)]

theorem test_cmp_vectors : cmpVectors.all agrees = true := by decide +kernel

/-- Vectors VB1, VB2, VB3, VB4, VB5; the last 2 calculated by hand from 42_bitwise.md R140. -/
def notVectors : List TestRow :=
  [(0x0020, 0, 0, 0xff, 0, false, 0),
   (0x0020, 0x1ff, 0, 0, 0, false, 0),
   (0x0021, 0x1234, 0, 0xedcb, 0, false, 0),
   (0x0024, 0, 0, 0xffffffffffffffffffffffffffffffff, 0, false, 0),
   (0x0024, 0x123456789abcdeffedcba9876543210, 0, 0xfedcba98765432100123456789abcdef, 0, false, 0),
   (0x0022, 0x0f0f0f0f, 0, 0xf0f0f0f0, 0, false, 0),
   (0x0023, 0, 7, 0xffffffffffffffff, 0, false, 0)]

theorem test_not_vectors : notVectors.all agrees = true := by decide +kernel

/-- Vectors VB6, VB9, VB12; the last 2 calculated by hand from 42_bitwise.md R141. -/
def andVectors : List TestRow :=
  [(0x0030, 0xf0, 0x3c, 0x30, 0, false, 0),
   (0x0032, 0xdeadbeef, 0xffffffff, 0xdeadbeef, 0, false, 0),
   (0x0034, 0xffffffffffffffffffffffffffffffff, 0xffffffffffffffff, 0xffffffffffffffff, 0, false, 0),
   (0x0031, 0xff0f, 0x0ff0, 0x0f00, 0, false, 0),
   (0x0033, 0xf000000000000001, 0x8000000000000003, 0x8000000000000001, 0, false, 0)]

theorem test_and_vectors : andVectors.all agrees = true := by decide +kernel

/-- Vectors VB7, VB10, VB13; the last 3 calculated by hand from 42_bitwise.md R142. -/
def orVectors : List TestRow :=
  [(0x0040, 0xf0, 0x3c, 0xfc, 0, false, 0),
   (0x0042, 0xdeadbeef, 0, 0xdeadbeef, 0, false, 0),
   (0x0044, 0x10000000000000000, 1, 0x10000000000000001, 0, false, 0),
   (0x0041, 0xf000, 0x000f, 0xf00f, 0, false, 0),
   (0x0042, 0x80000000, 1, 0x80000001, 0, false, 0),
   (0x0043, 0x8000000000000000, 1, 0x8000000000000001, 0, false, 0)]

theorem test_or_vectors : orVectors.all agrees = true := by decide +kernel

/-- Vectors VB8, VB11, VB14; the last 3 calculated by hand from 42_bitwise.md R143. -/
def xorVectors : List TestRow :=
  [(0x0050, 0xf0, 0x3c, 0xcc, 0, false, 0),
   (0x0053, 0xdeadbeefcafef00d, 0xdeadbeefcafef00d, 0, 0, false, 0),
   (0x0054, 0xffffffffffffffffffffffffffffffff, 0xffffffffffffffff, 0xffffffffffffffff0000000000000000, 0, false, 0),
   (0x0051, 0xffff, 0x00ff, 0xff00, 0, false, 0),
   (0x0052, 0xffffffff, 0x80000001, 0x7ffffffe, 0, false, 0),
   (0x0053, 0xFFFFFFFF00000000, 0xFFFF0000FFFF0000, 0x0000FFFFFFFF0000, 0, false, 0)]

theorem test_xor_vectors : xorVectors.all agrees = true := by decide +kernel

/-- Vectors VS1, VS2, VS3, VS4, VS5, VS6, VS10, VS12, VS14, VS15, VS16, VS17, VS18, VS19, VS20, VS21; the last 1 calculated by hand from 43_shift.md R150. -/
def shlVectors : List TestRow :=
  [(0x0060, 0x81, 1, 2, 0, false, 0),
   (0x0060, 0x81, 0, 0x81, 0, false, 0),
   (0x0060, 1, 7, 0x80, 0, false, 0),
   (0x0060, 1, 8, 0, 0, false, 0),
   (0x0060, 0xff, 255, 0, 0, false, 0),
   (0x0060, 0x81, 256, 0x81, 0, false, 0),
   (0x0061, 0xabcd, 4, 0xbcd0, 0, false, 0),
   (0x0063, 0xffffffff, 32, 0xffffffff00000000, 0, false, 0),
   (0x0063, 1, 64, 0, 0, false, 0),
   (0x0064, 0x8000000000000001, 1, 0x10000000000000002, 0, false, 0),
   (0x0064, 0x123456789abcdef, 64, 0x123456789abcdef0000000000000000, 0, false, 0),
   (0x0064, 3, 65, 0x60000000000000000, 0, false, 0),
   (0x0064, 1, 127, 0x80000000000000000000000000000000, 0, false, 0),
   (0x0064, 0xffffffffffffffffffffffffffffffff, 128, 0, 0, false, 0),
   (0x0064, 0xffffffffffffffffffffffffffffffff, 200, 0, 0, false, 0),
   (0x0064, 0xffffffffffffffffffffffffffffffff, 0, 0xffffffffffffffffffffffffffffffff, 0, false, 0),
   (0x0062, 0xc0000001, 4, 0x10, 0, false, 0)]

theorem test_shl_vectors : shlVectors.all agrees = true := by decide +kernel

/-- Vectors VS7, VS8, VS9, VS11, VS13, VS22, VS23, VS24, VS25; the last 1 calculated by hand from 43_shift.md R151. -/
def shrVectors : List TestRow :=
  [(0x0070, 0x80, 1, 0x40, 0, false, 0),
   (0x0070, 0x80, 7, 1, 0, false, 0),
   (0x0070, 0xff, 8, 0, 0, false, 0),
   (0x0072, 0x80000000, 31, 1, 0, false, 0),
   (0x0073, 0x8000000000000000, 63, 1, 0, false, 0),
   (0x0074, 0x10000000000000000, 1, 0x8000000000000000, 0, false, 0),
   (0x0074, 0xfedcba98765432100000000000000000, 64, 0xfedcba9876543210, 0, false, 0),
   (0x0074, 0x80000000000000000000000000000000, 127, 1, 0, false, 0),
   (0x0074, 0xffffffffffffffffffffffffffffffff, 128, 0, 0, false, 0),
   (0x0071, 0x8000, 15, 1, 0, false, 0)]

theorem test_shr_vectors : shrVectors.all agrees = true := by decide +kernel

/-- Vectors VA1 to VA17. -/
def addVectors : List TestRow :=
  [(0x0080, 0xc8, 0xc8, 0x90, 0, true, 0),
   (0x0080, 0x80, 0x80, 0, 0, true, 0),
   (0x0080, 0xff, 0x80, 0x7f, 0, true, 0),
   (0x0080, 0xff, 1, 0, 0, true, 0),
   (0x0080, 0x7f, 1, 0x80, 0, false, 0),
   (0x0080, 0x80, 0x7f, 0xff, 0, false, 0),
   (0x0080, 0x80, 0x81, 1, 0, true, 0),
   (0x0080, 0xc8, 0, 0xc8, 0, false, 0),
   (0x0080, 0x5a, 0xa5, 0xff, 0, false, 0),
   (0x0081, 0xffff, 0xffff, 0xfffe, 0, true, 0),
   (0x0082, 0x80000000, 0x80000000, 0, 0, true, 0),
   (0x0083, 0xffffffffffffffff, 1, 0, 0, true, 0),
   (0x0084, 0xffffffffffffffff, 1, 0x10000000000000000, 0, false, 0),
   (0x0084, 0xffffffffffffffffffffffffffffffff, 1, 0, 0, true, 0),
   (0x0084, 0x80000000000000000000000000000000, 0x80000000000000000000000000000000, 0, 0, true, 0),
   (0x0084, 0xffffffffffffffffffffffffffffffff, 0xffffffffffffffffffffffffffffffff, 0xfffffffffffffffffffffffffffffffe, 0, true, 0),
   (0x0084, 0x10000000000000001, 0x20000000000000003, 0x30000000000000004, 0, false, 0)]

theorem test_add_vectors : addVectors.all agrees = true := by decide +kernel

/-- Vectors VU1 to VU14; the last 1 calculated by hand from 45_sub.md R170. -/
def subVectors : List TestRow :=
  [(0x0090, 5, 7, 0xfe, 0, true, 0),
   (0x0090, 7, 5, 2, 0, false, 0),
   (0x0090, 0, 0, 0, 0, false, 0),
   (0x0090, 0, 1, 0xff, 0, true, 0),
   (0x0090, 0xc8, 0, 0xc8, 0, false, 0),
   (0x0090, 0x80, 0x7f, 1, 0, false, 0),
   (0x0090, 0x7f, 0x80, 0xff, 0, true, 0),
   (0x0090, 0xff, 0xff, 0, 0, false, 0),
   (0x0091, 0x1000, 1, 0xfff, 0, false, 0),
   (0x0093, 0, 0xffffffffffffffff, 1, 0, true, 0),
   (0x0094, 0x10000000000000000, 1, 0xffffffffffffffff, 0, false, 0),
   (0x0094, 0, 1, 0xffffffffffffffffffffffffffffffff, 0, true, 0),
   (0x0094, 0xffffffffffffffffffffffffffffffff, 0xffffffffffffffffffffffffffffffff, 0, 0, false, 0),
   (0x0094, 5, 0, 5, 0, false, 0),
   (0x0092, 0, 1, 0xffffffff, 0, true, 0)]

theorem test_sub_vectors : subVectors.all agrees = true := by decide +kernel

/-- Vectors VM1 to VM14. -/
def mulVectors : List TestRow :=
  [(0x00A0, 0xff, 0xff, 1, 0xfe, false, 0),
   (0x00A0, 0x10, 0x10, 0, 1, false, 0),
   (0x00A0, 0xc, 0xb, 0x84, 0, false, 0),
   (0x00A0, 0xc8, 0, 0, 0, false, 0),
   (0x00A1, 0xffff, 0xffff, 1, 0xfffe, false, 0),
   (0x00A2, 0xffffffff, 0xffffffff, 1, 0xfffffffe, false, 0),
   (0x00A2, 0x10000, 0x10000, 0, 1, false, 0),
   (0x00A3, 0xffffffffffffffff, 2, 0xfffffffffffffffe, 1, false, 0),
   (0x00A3, 0xffffffffffffffff, 0xffffffffffffffff, 1, 0xfffffffffffffffe, false, 0),
   (0x00A3, 0x100000000, 0x100000000, 0, 1, false, 0),
   (0x00A4, 0xffffffffffffffffffffffffffffffff, 0xffffffffffffffffffffffffffffffff, 1, 0xfffffffffffffffffffffffffffffffe, false, 0),
   (0x00A4, 0x10000000000000000, 0x10000000000000000, 0, 1, false, 0),
   (0x00A4, 0xffffffffffffffffffffffffffffffff, 2, 0xfffffffffffffffffffffffffffffffe, 1, false, 0),
   (0x00A4, 0x123456789abcdef0123456789abcdef, 0xfedcba9876543210fedcba9876543210, 0x458fab20783af1222236d88fe5618cf0, 0x121fa00ad77d742247acc9140513b74, false, 0)]

theorem test_mul_vectors : mulVectors.all agrees = true := by decide +kernel

/-- Vectors VD1 to VD19. -/
def divmodVectors : List TestRow :=
  [(0x00B1, 0x3e8, 7, 0x8e, 6, false, 0),
   (0x00B0, 0xff, 1, 0xff, 0, false, 0),
   (0x00B0, 7, 0xc8, 0, 7, false, 0),
   (0x00B0, 0xc8, 0xc8, 1, 0, false, 0),
   (0x00B0, 0xff, 0x80, 1, 0x7f, false, 0),
   (0x00B0, 0x80, 3, 0x2a, 2, false, 0),
   (0x00B0, 0, 5, 0, 0, false, 0),
   (0x00B1, 0xffff, 0xff, 0x101, 0, false, 0),
   (0x00B2, 0xffffffff, 0x10000, 0xffff, 0xffff, false, 0),
   (0x00B3, 0xffffffffffffffff, 0x100000001, 0xffffffff, 0, false, 0),
   (0x00B3, 0xffffffffffffffff, 2, 0x7fffffffffffffff, 1, false, 0),
   (0x00B4, 0xffffffffffffffffffffffffffffffff, 3, 0x55555555555555555555555555555555, 0, false, 0),
   (0x00B4, 0xffffffffffffffffffffffffffffffff, 0x10000000000000000, 0xffffffffffffffff, 0xffffffffffffffff, false, 0),
   (0x00B4, 0xffffffffffffffffffffffffffffffff, 0xffffffffffffffffffffffffffffffff, 1, 0, false, 0),
   (0x00B4, 0x80000000000000000000000000000000, 0x10000000000000001, 0x7fffffffffffffff, 0x8000000000000001, false, 0),
   (0x00B0, 5, 0, 0xAA, 0xBB, true, 1),
   (0x00B0, 0, 0, 0xAA, 0xBB, true, 1),
   (0x00B4, 0xffffffffffffffffffffffffffffffff, 0, 0xAA, 0xBB, true, 1),
   (0x00B1, 5, 0x10000, 0xAA, 0xBB, true, 1)]

theorem test_divmod_vectors : divmodVectors.all agrees = true := by decide +kernel

/-- Vectors VE1 to VE10. -/
def illegalVectors : List TestRow :=
  [(0x0000, 0, 0, 0xAA, 0xBB, true, 2),
   (0x0015, 1, 2, 0xAA, 0xBB, true, 2),
   (0x0017, 1, 2, 0xAA, 0xBB, true, 2),
   (0x0018, 1, 2, 0xAA, 0xBB, true, 2),
   (0x00C0, 1, 2, 0xAA, 0xBB, true, 2),
   (0x00F4, 1, 2, 0xAA, 0xBB, true, 2),
   (0x0110, 1, 2, 0xAA, 0xBB, true, 2),
   (0x08B0, 5, 0, 0xAA, 0xBB, true, 2),
   (0x00B7, 5, 0, 0xAA, 0xBB, true, 2),
   (0xFFFF, 0, 0, 0xAA, 0xBB, true, 2)]

theorem test_illegal_vectors : illegalVectors.all agrees = true := by decide +kernel

/-! ### One edge, on the vectors of 95_test_vectors.md L2.9 and the trace T1 -/

/-- The latency the tests of one edge assume: 3 for every command. -/
def lat3 : Latency := fun _ _ _ => 3

/-- What a test looks at after an edge. -/
def seen (o : Host.Outcome State Fault Refusal) : Option (Bool × Bool × Nat × Bus × Bool × BitVec 2) :=
  match o with
  | .next t => some (t.busy, t.done, t.cnt, t.resLo, t.cf, t.err)
  | _ => none

/-- A core that is busy with ADD.W8 200, 200 and has `n` edges to go. -/
def busyAdd (n : Nat) : State := { before 200 200 with cmdL := 0x0080, busy := true, cnt := n }

theorem test_reset_edge_VR1_VR6 :
    seen (edge lat3 { present 0x0080 1 2 with rst := true } (busyAdd 1)) = some (false, false, 0, 0, false, 0) := by
  decide

theorem test_idle_edge_VR2 :
    seen (edge lat3 noCommand { before 0 0 with done := true }) = some (false, false, 0, 0xAA, true, 0) := by
  decide

theorem test_accept_edge_VR3 :
    seen (edge lat3 (present 0xFFFF 5 6) (before 0 0)) = some (true, false, 3, 0xAA, true, 0) := by
  decide

theorem test_accept_edge_latches :
    (match edge lat3 (present 0x00B1 1000 7) (before 0 0) with
      | .next t => decide (t.cmdL = 0x00B1 ∧ t.aL = 1000 ∧ t.bL = 7)
      | _ => false) = true := by
  decide

theorem test_busy_edge_VR4 :
    seen (edge lat3 (present 0x00B1 1000 7) (busyAdd 3)) = some (true, false, 2, 0xAA, true, 0) := by
  decide

theorem test_completion_edge_VR5 : seen (edge lat3 noCommand (busyAdd 1)) = some (false, true, 0, 144, true, 0) := by
  decide +kernel

/-- 10_state.md R49. -/
theorem test_command_before_reset_faults :
    (match edge lat3 (present 0x0080 1 2) (State.powerUp State.reset) with
      | .fault f => decide (f = .commandBeforeReset)
      | _ => false) = true := by
  decide

/-- 10_state.md R45, R49. -/
theorem test_outputs :
    (match (busyAdd 2).readOutputs, (State.powerUp State.reset).readOutputs with
      | .next out, .fault f => decide (out.cmdReady = false ∧ out.busy = true ∧ out.resLo = 0xAA ∧ out.resCf = true ∧
          f = .outputBeforeReset)
      | _, _ => false) = true := by
  decide

/-! ### The composed forms, the reference structures and the host's side -/

/-- Vector VM14 through the composed 128-bit product, and VA13, VU11, VC12, VS15, VS22 and VD15 through theirs. -/
theorem test_composed :
    composed .mulW128 0x123456789abcdef0123456789abcdef 0xfedcba9876543210fedcba9876543210
      = some (.ok 0x458fab20783af1222236d88fe5618cf0 0x121fa00ad77d742247acc9140513b74 false) ∧
    composed .addW128 0xffffffffffffffff 1 = some (.ok 0x10000000000000000 0 false) ∧
    composed .subW128 0x10000000000000000 1 = some (.ok 0xffffffffffffffff 0 false) ∧
    composed .cmpW128 0x50000000000000001 0x50000000000000002
      = some (.ok 0xffffffffffffffffffffffffffffffff 0 true) ∧
    composed .shlW128 0x8000000000000001 1 = some (.ok 0x10000000000000002 0 false) ∧
    composed .shrW128 0x10000000000000000 1 = some (.ok 0x8000000000000000 0 false) ∧
    composed .divmodW128 0x80000000000000000000000000000000 0x10000000000000001
      = some (.ok 0x7fffffffffffffff 0x8000000000000001 false) := by
  decide +kernel

/-- Vectors VA1 and VM1 at 8 bits through the reference structures; VS1 and VS8 through the barrel shifter. -/
theorem test_structures :
    (prefixAdd (0xc8 : BitVec 8) 0xc8 = ⟨0x90, 0, true⟩) ∧ (koggeStoneAdd (0xc8 : BitVec 8) 0xc8 = ⟨0x90, 0, true⟩) ∧
    (boothMul (0xff : BitVec 8) 0xff = ⟨1, 0xfe, false⟩) ∧ (wallaceMul (0xff : BitVec 8) 0xff = ⟨1, 0xfe, false⟩) ∧
    (barrelShl (0x81 : BitVec 8) 1 = ⟨2, 0, false⟩) ∧ (barrelShr (0x80 : BitVec 8) 7 = ⟨1, 0, false⟩) := by
  decide +kernel

/-- The levels of the Kogge-Stone tree: 3, 4, 5, 6, 7 (44_add.md R163). -/
theorem test_levels : [8, 16, 32, 64, 128].map (fun n => levelsFor n n) = [3, 4, 5, 6, 7] := by decide +kernel

/-- The iteration counts of vectors VD1, VD2, VD3, VD6, VD10 and VD13. -/
theorem test_iterations :
    divIterations (1000 : BitVec 16) 7 = 8 ∧ divIterations (0xff : BitVec 8) 1 = 8 ∧
    divIterations (7 : BitVec 8) 0xc8 = 1 ∧ divIterations (0x80 : BitVec 8) 3 = 6 ∧
    divIterations (0xffffffffffffffff : BitVec 64) 0x100000001 = 32 ∧
    divIterations (0xffffffffffffffffffffffffffffffff : BitVec 128) 0x10000000000000000 = 64 := by
  decide +kernel

/-- The recommended latencies of an illegal word, MUL.W128, DIVMOD by zero and VD1 (70_reset_and_hazards.md R242). -/
theorem test_recommended_latency :
    recommendedLatency 0 0 0 = (1, 1) ∧ recommendedLatency 0x00A4 0 0 = (1, 16) ∧
    recommendedLatency 0x00B0 5 0 = (1, 1) ∧ recommendedLatency 0x00B1 1000 7 = (9, 9) := by
  decide +kernel

/-- NEG.W32 of program P3, INC at the top of a width, and the predicates on 6 and 7 (30_encoding.md R91). -/
theorem test_pseudo :
    pseudoNeg .w32 0x12345678 = .ok 0xEDCBA988 0 false ∧ pseudoInc .w8 255 = .ok 0 0 true ∧
    pseudoLt .w16 6 7 = true ∧ pseudoGte .w16 6 7 = false ∧ pseudoIsPos .w64 0 = false ∧
    pseudoTrunc .w16 8 0x1ff = some 0xff ∧ pseudoTrunc .w8 8 0xff = some 0xff ∧ pseudoTrunc .w8 16 0xff = none := by
  decide +kernel

/-- What the assembler drives (30_encoding.md R89). -/
theorem test_assemble : assemble ⟨.addW8, 200, 200⟩ = some (present 0x0080 200 200) ∧ assemble ⟨.addW8, 256, 0⟩ = none := by
  decide

/-- The host at its start: registers 0, line 0 (95_test_vectors.md, Programs). -/
def hostStart : HostState := { regs := Vector.replicate 16 0, line := 0, waiting := false }

/-- A CMD of the host presents its command for the accept edge and then waits (30_encoding.md R90). -/
theorem test_host_cmd_accepts :
    (match hostStep lat3 [.cmd 0x0080 (.lit 200) (.lit 200)] hostStart State.reset with
      | .next (h, t) => decide (h.waiting = true ∧ t.busy = true ∧ t.cmdL = 0x0080 ∧ t.aL = 200)
      | _ => false) = true := by
  decide +kernel

/-- A MOV of the host reads CF zero-extended (30_encoding.md R90). -/
theorem test_host_mov :
    (match hostStep lat3 [.mov 5 .cf] hostStart (before 0 0) with
      | .next (h, _) => decide (h.regs.get 5 = 1 ∧ h.line = 1)
      | _ => false) = true := by
  decide +kernel

/-- After an error completion the results are not usable as that command's (70_reset_and_hazards.md R238). -/
theorem test_results_not_usable_after_error : ¬ ({ before 0 0 with err := 1 } : State).ResultsUsable := by
  unfold State.ResultsUsable
  decide

theorem test_step_of_placed_word_after_reset :
    seen (step (State.reset.withFetchWord 16 0x00B4)) = some (false, true, 0, 0, false, 1) := by
  decide +kernel

/-! ### Witnesses: for each statement with hypotheses, a state and operands that meet them -/

theorem witness_ResetEdgeGivesTheResetValues : ({ noCommand with rst := true } : Inputs).rst = true := by decide

theorem witness_AcceptEdgeLatchesCommand :
    (before 1 2).live = true ∧ (present 0x0000 1 2).rst = false ∧ (before 1 2).busy = false ∧
    (present 0x0000 1 2).cmdValid = true := by
  decide

theorem witness_CommandPresentedWhileBusyIsIgnored :
    (busyAdd 2).live = true ∧ (busyAdd 2).busy = true ∧ noCommand.rst = false ∧ (present 0x00B1 1 2).rst = false ∧
    (busyAdd 2).cnt ≠ 1 := by
  decide

theorem witness_CompletionEdgeWritesTheOutcome :
    (busyAdd 1).live = true ∧ (busyAdd 1).busy = true ∧ noCommand.rst = false ∧ (busyAdd 1).cnt = 1 ∧
    (busyAdd 2).live = true ∧ (busyAdd 2).busy = true ∧ (busyAdd 2).cnt ≠ 1 := by
  decide

/-- The three outcomes a completion edge may find. -/
theorem witness_CompletionEdgeWritesTheOutcome_each :
    commandOutcome 0x0080 200 200 = .ok 144 0 true ∧ commandOutcome 0x00B0 5 0x100 = .err .dz ∧
    commandOutcome 0x08B0 5 0 = .err .ill := by
  decide +kernel

theorem witness_IdleEdgeClearsDoneOnly :
    (before 1 2).live = true ∧ noCommand.rst = false ∧ (before 1 2).busy = false ∧ noCommand.cmdValid = false := by
  decide

theorem witness_StepRunsTheDecodedCommand :
    let s := { busyAdd 1 with ports := [noCommand] }
    s.live = true ∧ s.busy = true ∧ s.cnt = 1 ∧ s.sample.rst = false ∧ decode s.cmdL = .ok .addW8 := by
  decide

theorem witness_StepRunsThePlacedWord : decode (BitVec.ofNat 16 0x0010) = .ok .cmpW8 := by decide

theorem witness_DecoderRefusesExactlyTheIllegalWords :
    ¬ legalNumber (0x08B0 : CmdWord).toNat ∧ ¬ legalNumber (0x0000 : CmdWord).toNat ∧
    ¬ legalNumber (0x00C0 : CmdWord).toNat ∧ ¬ legalNumber (0x0015 : CmdWord).toNat ∧
    ¬ legalNumber (0x0018 : CmdWord).toNat ∧ legalNumber (0x00B4 : CmdWord).toNat := by
  unfold legalNumber
  decide

theorem witness_forms_of_every_operation :
    (⟨0x0010, .cmpW8, 8⟩ : Form) ∈ cmpForms ∧ (⟨0x0021, .notW16, 16⟩ : Form) ∈ notForms ∧
    (⟨0x0032, .andW32, 32⟩ : Form) ∈ andForms ∧ (⟨0x0043, .orW64, 64⟩ : Form) ∈ orForms ∧
    (⟨0x0054, .xorW128, 128⟩ : Form) ∈ xorForms ∧ (⟨0x0060, .shlW8, 8⟩ : Form) ∈ shlForms ∧
    (⟨0x0071, .shrW16, 16⟩ : Form) ∈ shrForms ∧ (⟨0x0082, .addW32, 32⟩ : Form) ∈ addForms ∧
    (⟨0x0093, .subW64, 64⟩ : Form) ∈ subForms ∧ (⟨0x00A4, .mulW128, 128⟩ : Form) ∈ mulForms ∧
    (⟨0x00B0, .divmodW8, 8⟩ : Form) ∈ divmodForms := by
  decide

/-- B = 0 also where only bits above the width are set, and B ≠ 0 at its least value. -/
theorem witness_DivmodWritesQuotientAndRemainder :
    numB 8 (before 5 0x100) = 0 ∧ numB 8 (before 0 0) = 0 ∧ numB 8 (before 5 1) ≠ 0 ∧
    numB 128 (before 5 (2 ^ 127)) ≠ 0 := by
  decide +kernel

theorem witness_ResultsAreZeroExtended :
    exec .notW8 (before 0x1ff 0) = .next ((before 0x1ff 0).complete (.ok 0 0 false)) ∧
    ((before 0x1ff 0).complete (.ok 0 0 false)).err = 0 :=
  ⟨rfl, rfl⟩

theorem witness_UpperOperandBitsAreIgnored :
    ((5 : Bus).toNat % 2 ^ (Instr.width .shlW8).bits = (0x105 : Bus).toNat % 2 ^ (Instr.width .shlW8).bits ∧
      Instr.op .shlW8 = .shl ∧ (1 : Bus).toNat % 256 = (0x101 : Bus).toNat % 256) ∧
    ((7 : Bus).toNat % 2 ^ (Instr.width .addW16).bits = (0x30007 : Bus).toNat % 2 ^ (Instr.width .addW16).bits ∧
      Instr.op .addW16 ≠ .shl ∧ Instr.op .addW16 ≠ .shr) ∧
    Instr.op .notW128 = .not := by
  decide +kernel

theorem witness_CommandsLeaveTheRestUnchanged :
    exec .divmodW8 (before 5 0) = .next ((before 5 0).complete (.err .dz)) ∧
    ((before 5 0).complete (.err .dz)).err ≠ 0 :=
  ⟨rfl, by decide⟩

theorem witness_StepKeepsRegistersCoherent :
    ({ busyAdd 1 with ports := [noCommand] } : State).Coherent ∧
    ∃ t, step { busyAdd 1 with ports := [noCommand] } = .next t :=
  ⟨by unfold State.Coherent; decide, _, rfl⟩

theorem witness_CommandCompletesAfterItsLatency :
    (∀ cmd a b, 1 ≤ lat3 cmd a b) ∧ State.reset.live = true ∧ State.reset.busy = false ∧
    (present 0x00B1 1000 7).rst = false ∧ (present 0x00B1 1000 7).cmdValid = true ∧
    (∀ x ∈ [noCommand, present 0x0080 200 200, noCommand], x.rst = false) ∧
    [noCommand, present 0x0080 200 200, noCommand].length = lat3 0x00B1 1000 7 :=
  ⟨fun _ _ _ => by unfold lat3; decide, rfl, rfl, rfl, rfl, by decide, rfl⟩

/-- The error clause, for DZ and for ILL: commands that meet the same premises and whose outcome is an error. -/
theorem witness_CommandCompletesAfterItsLatency_errors :
    (present 0x00B1 5 0x10000).rst = false ∧ (present 0x00B1 5 0x10000).cmdValid = true ∧
    [noCommand, noCommand, noCommand].length = lat3 0x00B1 5 0x10000 ∧
    commandOutcome 0x00B1 5 0x10000 = .err .dz ∧
    (present 0xFFFF 0 0).rst = false ∧ (present 0xFFFF 0 0).cmdValid = true ∧
    [noCommand, noCommand, noCommand].length = lat3 0xFFFF 0 0 ∧ commandOutcome 0xFFFF 0 0 = .err .ill ∧
    (before 0 0).live = true ∧ (before 0 0).busy = false ∧ (∀ x ∈ [noCommand, noCommand, noCommand], x.rst = false) := by
  decide +kernel

theorem witness_ResultsAreStaleWhileBusy :
    (before 0 0).live = true ∧ (before 0 0).busy = false ∧ (present 0x00B1 1000 7).rst = false ∧
    (present 0x00B1 1000 7).cmdValid = true ∧ (∀ x ∈ [noCommand, noCommand], x.rst = false) ∧
    [noCommand, noCommand].length < lat3 0x00B1 1000 7 :=
  ⟨rfl, rfl, rfl, rfl, by decide, by decide⟩

theorem witness_HiddenRegistersAreNeverObserved :
    State.reset.SameToHost { State.reset with cmdL := 0x00B4, aL := 1, bL := 2 } := by
  unfold State.SameToHost
  decide

theorem witness_DoneIsSetExactlyAtCompletionEdges : (busyAdd 1).live = true ∧ (before 0 0).live = true := by decide

theorem witness_ResultsChangeOnlyAtCompletionOrReset :
    ∃ t, edge lat3 noCommand (busyAdd 1) = .next t ∧ t.resLo ≠ (busyAdd 1).resLo :=
  ⟨_, rfl, by decide +kernel⟩

theorem witness_ErrChangesAtAnErrorCompletion :
    ∃ t, edge lat3 noCommand { busyAdd 1 with cmdL := 0x0000 } = .next t ∧ t.err ≠ (busyAdd 1).err :=
  ⟨_, rfl, by decide +kernel⟩

theorem witness_UseBeforeResetIsAFault :
    (State.powerUp State.reset).live = false ∧ (present 0 0 0).rst = false ∧ (present 0 0 0).cmdValid = true ∧
    noCommand.rst = false ∧ noCommand.cmdValid = false ∧ ({ noCommand with rst := true } : Inputs).rst = true := by
  decide

theorem witness_OutputsAreTheRegisters : State.reset.live = true := by decide

theorem witness_ResetCoreAlwaysStepsAndStaysReset : State.reset.live = true := by decide

theorem witness_CarryFollowsFromTopBits :
    1 ≤ 8 ∧ (0x80 : BitVec 8).msb = true ∧ (0xff : BitVec 8).msb = true ∧ (0x7f : BitVec 8).msb = false := by
  decide

theorem witness_BorrowOfSubIsBorrowOfCmp : numB Width.w16.bits (before 5 0x10000) = 0 := by decide +kernel

theorem witness_RestoringDivisionDivides : (1 : BitVec 8) ≠ 0 ∧ (1 : BitVec (64 + 64)) ≠ 0 := by decide

theorem witness_DivisionTakesOneToNIterations :
    2 ≤ 8 ∧ (1 : BitVec 8) ≠ 0 ∧ divIterations (0x80 : BitVec 8) 1 = 8 ∧ divIterations (0x7f : BitVec 8) 1 = 7 := by
  decide +kernel

theorem witness_ControllerIsNotObservable :
    composed .cmpW128 1 1 = some (.ok 0 0 false) ∧ composed .cmpW64 1 1 = some (.ok 0 0 false) ∧
    composed .cmpW32 1 1 = none := by
  decide +kernel

/-- k at N, below N, above N, and no k of the table. -/
theorem witness_PseudoInstructionsGiveTheirResults :
    ((8 : Nat) ∈ [8, 16, 32, 64] ∧ 8 ≤ Width.w8.bits) ∧ ((64 : Nat) ∈ [8, 16, 32, 64] ∧ 64 ≤ Width.w128.bits) ∧
    ¬ ((16 : Nat) ∈ [8, 16, 32, 64] ∧ 16 ≤ Width.w8.bits) ∧
    ¬ ((128 : Nat) ∈ [8, 16, 32, 64] ∧ 128 ≤ Width.w128.bits) := by
  decide

theorem witness_DivisionIsUndoneByMulAndAdd : (7 : Bus).toNat % 2 ^ Width.w16.bits ≠ 0 := by decide +kernel

end Sys2Proof.Tests
end

section
/-! SUPPORT. The latched word against the pure outcome: decoding and then running a command is
`Exec` of 40_engine.md R100, so a completion edge writes `commandOutcome` and nothing else has to be known of it. -/

namespace Sys2Proof

/-- A word is its four fields (30_encoding.md R80). -/
theorem word_eq_fields (w : CmdWord) : w = fieldRsv1 w ++ fieldOp w ++ fieldRsv0 w ++ fieldW w := by
  unfold fieldRsv1 fieldOp fieldRsv0 fieldW
  rw [BitVec.extractLsb'_append_extractLsb'_eq_extractLsb' (show 8 = 4 + 4 from rfl),
    BitVec.extractLsb'_append_extractLsb'_eq_extractLsb' (show 4 = 3 + 1 from rfl),
    BitVec.extractLsb'_append_extractLsb'_eq_extractLsb' (show 3 = 0 + 3 from rfl)]
  exact BitVec.extractLsb'_eq_self.symm

theorem decodeOp_eq_some {c : BitVec 4} {op : Op} (h : decodeOp c = some op) : c = opcodeOf op := by
  revert c
  cases op <;> decide

theorem decodeWidth_eq_some {c : BitVec 3} {n : Width} (h : decodeWidth c = some n) : c = widthCodeOf n := by
  revert c
  cases n <;> decide

/-- The opcodes that name no operation are those that `legal` refuses (30_encoding.md R82, R83). -/
theorem decodeOp_eq_none {c : BitVec 4} (h : decodeOp c = none) : ¬ (1 ≤ c.toNat ∧ c.toNat ≤ 0xB) := by
  revert c
  decide

/-- The width codes that select no width are those that `legal` refuses (30_encoding.md R81, R83). -/
theorem decodeWidth_eq_none {c : BitVec 3} (h : decodeWidth c = none) : ¬ c.toNat ≤ 4 := by
  revert c
  decide

theorem encode_instrOf (op : Op) (n : Width) : encode (instrOf op n) = wordOf op n := by
  cases op <;> cases n <;> rfl

/-- A word that decodes to a command is that command's word in the table (30_encoding.md R88). -/
theorem eq_encode_of_decode_eq_ok {w : CmdWord} {i : Instr} (h : decode w = .ok i) : w = encode i := by
  unfold decode at h
  split at h
  · cases h
  next hRsv1 =>
    split at h
    · cases h
    next hRsv0 =>
      split at h
      · cases h
      · cases h
      next op n hOp hW =>
        cases h
        rw [encode_instrOf, wordOf, ← decodeOp_eq_some hOp, ← decodeWidth_eq_some hW, ← not_not.mp hRsv1,
          ← not_not.mp hRsv0]
        exact word_eq_fields w

theorem legal_eq_true_iff {w : CmdWord} : legal w = true ↔
    fieldRsv1 w = 0 ∧ fieldRsv0 w = 0 ∧ (1 ≤ (fieldOp w).toNat ∧ (fieldOp w).toNat ≤ 0xB) ∧ (fieldW w).toNat ≤ 4 := by
  simp [legal, and_assoc]

/-- A word that the decoder refuses fails one of the four conditions (30_encoding.md R83). -/
theorem legal_eq_false_of_decode_eq_error {w : CmdWord} {e : Illegal} (h : decode w = .error e) :
    legal w = false := by
  refine Bool.eq_false_iff.mpr fun hLegal => ?_
  obtain ⟨hRsv1, hRsv0, hOpRange, hWRange⟩ := legal_eq_true_iff.mp hLegal
  rw [decode, if_neg (not_not.mpr hRsv1), if_neg (not_not.mpr hRsv0)] at h
  split at h
  next hOp => exact decodeOp_eq_none hOp hOpRange
  next hW => exact decodeWidth_eq_none hW hWRange
  next => cases h

end Sys2Proof

namespace Sys2Proof.Machine

/-- The meaning of a command is the completion with `Exec` of its word (40_engine.md R100, R104). -/
theorem exec_eq_finish (i : Instr) (s : State) : exec i s = finish (commandOutcome (encode i) s.aL s.bL) s := by
  cases i <;> rfl

theorem commandOutcome_of_not_legal {w : CmdWord} (h : legal w = false) (a b : Bus) :
    commandOutcome w a b = .err .ill := by
  simp [commandOutcome, h]

/-- A completion edge writes `Exec` of the latched word, legal or not (40_engine.md R104, 60_exceptions.md R202). -/
theorem completionEdge_eq (s : State) :
    completionEdge s = .next (s.complete (commandOutcome s.cmdL s.aL s.bL)) := by
  unfold completionEdge
  split
  next i h => rw [exec_eq_finish, ← eq_encode_of_decode_eq_ok h, finish]
  next e h => rw [commandOutcome_of_not_legal (legal_eq_false_of_decode_eq_error h), finish]

end Sys2Proof.Machine
end

section
/-! SUPPORT. Beside Laws/Edge.lean: a reset edge and an edge before the first reset as equations, and that every
edge of a core that has been reset answers a next state. -/

namespace Sys2Proof.Machine

theorem edge_of_rst {inp : Inputs} (h : inp.rst = true) (lat : Latency) (s : State) :
    edge lat inp s = .next s.resetEdge := by
  simp [edge, h]

/-- An edge before the first reset edge with rst = 0 (10_state.md R49). -/
theorem edge_of_not_live {inp : Inputs} {s : State} (hRst : inp.rst = false) (hLive : s.live = false) (lat : Latency) :
    edge lat inp s = if inp.cmdValid then .fault .commandBeforeReset else .next s.tick := by
  simp [edge, hRst, hLive]

/-- A fault needs a core that has not been reset, and no edge is refused (10_state.md R49). -/
theorem exists_edge_eq_next_of_live {s : State} (hLive : s.live = true) (lat : Latency) (inp : Inputs) :
    ∃ t, edge lat inp s = .next t := by
  cases h : edge lat inp s with
  | next t => exact ⟨t, rfl⟩
  | fault f =>
    obtain ⟨-, hNotLive, -, -⟩ := edge_fault h
    simp [hLive] at hNotLive
  | refused r => exact absurd h (edge_not_refused lat inp s r)

end Sys2Proof.Machine
end

section
/-! PROOF. The engine registers stay coherent (10_state.md R34, R35, R39, R41): one lemma per operation that an edge is
made of, then the edge, then the step. -/

namespace Sys2Proof.Machine

variable {s t : State}

theorem errValue_ne_three (c : ErrCode) : errValue c ≠ 3 := by
  cases c <;> decide

theorem State.Coherent.popSample (h : s.Coherent) : s.popSample.Coherent := h

theorem State.Coherent.tick (h : s.Coherent) : s.tick.Coherent := h

theorem State.Coherent.idle (h : s.Coherent) : s.idle.Coherent := by
  obtain ⟨hBusy, hFree, -, hErr⟩ := h
  exact ⟨hBusy, hFree, by simp, hErr⟩

/-- An accept edge starts the count at the latency, which has to be at least 1 (40_engine.md R109). -/
theorem State.Coherent.accept (h : s.Coherent) {lat : Latency} (hLat : ∀ cmd a b, 1 ≤ lat cmd a b) (inp : Inputs) :
    (s.accept lat inp).Coherent := by
  obtain ⟨-, -, -, hErr⟩ := h
  exact ⟨fun _ => hLat _ _ _, by simp, by simp, hErr⟩

/-- A count that is at least 1 and not 1 is still at least 1 when it is lowered (40_engine.md R104). -/
theorem State.Coherent.countDown (h : s.Coherent) (hBusy : s.busy = true) (hCnt : s.cnt ≠ 1) :
    s.countDown.Coherent := by
  obtain ⟨hPos, -, -, hErr⟩ := h
  have hPos := hPos hBusy
  refine ⟨fun _ => ?_, by simp [hBusy], by simp, hErr⟩
  rw [State.countDown_cnt]
  omega

theorem State.coherent_complete (s : State) (o : CmdOutcome) : (s.complete o).Coherent := by
  refine ⟨by simp, by simp, by simp, ?_⟩
  cases o with
  | ok lo hi cf => simp
  | err c => exact errValue_ne_three c

theorem State.coherent_resetEdge (s : State) : s.resetEdge.Coherent := by
  simp [State.Coherent]

/-- Every edge keeps the registers coherent, whatever it samples, over every latency that is at least 1. -/
theorem State.Coherent.edge (h : s.Coherent) {lat : Latency} (hLat : ∀ cmd a b, 1 ≤ lat cmd a b) {inp : Inputs}
    (hEdge : edge lat inp s = .next t) : t.Coherent := by
  obtain ⟨-, rfl⟩ | ⟨-, -, -, rfl⟩ | ⟨-, -, -, -, rfl⟩ | ⟨-, -, -, -, rfl⟩ | ⟨-, -, hBusy, hCnt, rfl⟩ |
    ⟨-, -, -, -, -, o, rfl⟩ := edge_next_cases hEdge
  · exact s.coherent_resetEdge
  · exact h.tick
  · exact h.tick.idle
  · exact h.tick.accept hLat inp
  · exact h.tick.countDown hBusy hCnt
  · exact s.tick.coherent_complete o

/-- Settles O28: the step is an edge over the latency of the configuration, which is at least 1. -/
theorem stepKeepsRegistersCoherent : Obligations.StepKeepsRegistersCoherent := by
  unfold Obligations.StepKeepsRegistersCoherent
  intro s t hCoherent hStep
  exact hCoherent.popSample.edge Config_LAT_pos hStep

/-- Settles O29: every engine register of the reset state is 0. -/
theorem resetStateIsCoherent : Obligations.ResetStateIsCoherent := by
  unfold Obligations.ResetStateIsCoherent
  simp [State.Coherent, State.reset]

end Sys2Proof.Machine
end

section
/-! PROOF. CMD_L, A_L and B_L of an idle core are never observed (10_state.md R40, R44, R47): no operation that an edge is
made of tells apart two states that are the same to the host, so no edge does, and no row of edges. -/

namespace Sys2Proof.Machine

variable {s t : State}

/-- What the host cannot tell apart, register by register. -/
theorem State.sameToHost_iff : s.SameToHost t ↔
    (s.busy = t.busy ∧ s.done = t.done ∧ s.resLo = t.resLo ∧ s.resHi = t.resHi ∧ s.cf = t.cf ∧ s.err = t.err) ∧
    (s.cnt = t.cnt ∧ s.live = t.live ∧ s.ports = t.ports ∧ s.edgeNo = t.edgeNo) ∧
    (s.busy = true → s.cmdL = t.cmdL ∧ s.aL = t.aL ∧ s.bL = t.bL) := by
  simp [State.SameToHost, State.outputs, and_assoc]

theorem State.SameToHost.tick (h : s.SameToHost t) : s.tick.SameToHost t.tick := by
  simpa [State.sameToHost_iff] using h

theorem State.SameToHost.idle (h : s.SameToHost t) : s.idle.SameToHost t.idle := by
  rw [State.sameToHost_iff] at h ⊢
  obtain ⟨⟨hBusy, -, hRegs⟩, hRest⟩ := h
  exact ⟨⟨hBusy, rfl, hRegs⟩, hRest⟩

theorem State.SameToHost.countDown (h : s.SameToHost t) : s.countDown.SameToHost t.countDown := by
  rw [State.sameToHost_iff] at h ⊢
  obtain ⟨⟨hBusy, -, hRegs⟩, ⟨hCnt, hModel⟩, hLatched⟩ := h
  exact ⟨⟨hBusy, rfl, hRegs⟩, ⟨by simp [hCnt], hModel⟩, hLatched⟩

/-- An accept edge overwrites the three registers with the sample, so afterwards they agree. -/
theorem State.SameToHost.accept (h : s.SameToHost t) (lat : Latency) (inp : Inputs) :
    (s.accept lat inp).SameToHost (t.accept lat inp) := by
  rw [State.sameToHost_iff] at h ⊢
  obtain ⟨⟨-, -, hRegs⟩, ⟨-, hModel⟩, -⟩ := h
  exact ⟨⟨rfl, rfl, hRegs⟩, ⟨rfl, hModel⟩, fun _ => ⟨rfl, rfl, rfl⟩⟩

/-- After a completion the core is not busy, so what the three registers hold no longer counts. -/
theorem State.SameToHost.complete (h : s.SameToHost t) (o : CmdOutcome) :
    (s.complete o).SameToHost (t.complete o) := by
  rw [State.sameToHost_iff] at h ⊢
  obtain ⟨⟨-, -, hLo, hHi, hCf, -⟩, ⟨-, hLive, hPorts, hEdgeNo⟩, -⟩ := h
  cases o with
  | ok lo hi cf => simp [hLive, hPorts, hEdgeNo]
  | err c => simp [hLo, hHi, hCf, hLive, hPorts, hEdgeNo]

/-- A reset edge leaves free values in the three registers and the core idle. -/
theorem State.SameToHost.resetEdge (h : s.SameToHost t) : s.resetEdge.SameToHost t.resetEdge := by
  rw [State.sameToHost_iff] at h ⊢
  obtain ⟨-, ⟨-, -, hPorts, hEdgeNo⟩, -⟩ := h
  simp [hPorts, hEdgeNo]

/-- A completion edge reads the three registers, and it is a busy edge, where they agree. -/
theorem State.SameToHost.completionEdge (h : s.SameToHost t) (hBusy : s.busy = true) :
    SameOutcome (completionEdge s) (completionEdge t) := by
  obtain ⟨-, -, hLatched⟩ := State.sameToHost_iff.mp h
  obtain ⟨hCmd, hA, hB⟩ := hLatched hBusy
  rw [completionEdge_eq, completionEdge_eq, ← hCmd, ← hA, ← hB]
  exact h.complete _

theorem State.SameToHost.liveEdge (h : s.SameToHost t) (lat : Latency) (inp : Inputs) :
    SameOutcome (liveEdge lat inp s) (liveEdge lat inp t) := by
  obtain ⟨⟨hBusy, -⟩, ⟨hCnt, -⟩, -⟩ := State.sameToHost_iff.mp h
  unfold Machine.liveEdge
  rw [← hBusy, ← hCnt]
  split
  next hb =>
    split
    · exact h.completionEdge hb
    · exact h.countDown
  next =>
    split
    · exact h.accept lat inp
    · exact h.idle

/-- One edge: the step lemma of the relation. -/
theorem State.SameToHost.edge (h : s.SameToHost t) (lat : Latency) (inp : Inputs) :
    SameOutcome (edge lat inp s) (edge lat inp t) := by
  obtain ⟨-, ⟨-, hLive, -⟩, -⟩ := State.sameToHost_iff.mp h
  unfold Machine.edge
  rw [← hLive]
  split
  · exact h.resetEdge
  · split
    · exact h.tick.liveEdge lat inp
    · split
      · exact rfl
      · exact h.tick

/-- A row of edges, by induction on the row. -/
theorem State.SameToHost.edges (lat : Latency) (inps : List Inputs) (h : s.SameToHost t) :
    SameOutcome (edges lat inps s) (edges lat inps t) := by
  induction inps generalizing s t with
  | nil => exact h
  | cons inp rest ih =>
    have hFirst := h.edge lat inp
    unfold Machine.edges
    cases hs : Machine.edge lat inp s <;> cases ht : Machine.edge lat inp t <;> rw [hs, ht] at hFirst
    case next.next => exact ih hFirst
    case fault.fault => exact hFirst
    case refused.refused => exact hFirst
    all_goals exact hFirst.elim

/-- Settles O32, by the step lemma for one edge and induction on the row. -/
theorem hiddenRegistersAreNeverObserved : Obligations.HiddenRegistersAreNeverObserved := by
  unfold Obligations.HiddenRegistersAreNeverObserved
  intro lat inps s t h
  exact h.edges lat inps

end Sys2Proof.Machine
end

section
/-! PROOF. When DONE, the results and ERR change (10_state.md R35 to R39), what a reset edge and an edge before the first
reset do (R48, R49), and what the host reads (R45). -/

namespace Sys2Proof.Machine

/-- Settles O33: of the edges a reset core can take, only the completion edge sets DONE. -/
theorem doneIsSetExactlyAtCompletionEdges : Obligations.DoneIsSetExactlyAtCompletionEdges := by
  unfold Obligations.DoneIsSetExactlyAtCompletionEdges
  intro lat inp s hLive
  obtain ⟨t, hEdge⟩ := exists_edge_eq_next_of_live hLive lat inp
  refine ⟨t, hEdge, ?_⟩
  obtain ⟨hRst, rfl⟩ | ⟨-, hNotLive, -⟩ | ⟨-, -, hBusy, -, rfl⟩ | ⟨-, -, hBusy, -, rfl⟩ | ⟨-, -, -, hCnt, rfl⟩ |
    ⟨hRst, -, hBusy, hCnt, -, o, rfl⟩ := edge_next_cases hEdge
  · simp [hRst]
  · simp [hLive] at hNotLive
  · simp [hBusy]
  · simp [hBusy]
  · simp [hCnt]
  · simp [hRst, hBusy, hCnt]

/-- Writing an outcome changes RES_LO, RES_HI or CF only where the outcome is Ok (40_engine.md R105). -/
theorem State.outcome_ok_of_complete_changes_results {s : State} {o : CmdOutcome}
    (h : (s.complete o).resLo ≠ s.resLo ∨ (s.complete o).resHi ≠ s.resHi ∨ (s.complete o).cf ≠ s.cf) :
    ∃ lo hi cf, o = .ok lo hi cf := by
  cases o with
  | ok lo hi cf => exact ⟨lo, hi, cf, rfl⟩
  | err c => simp at h

/-- Settles O34: every edge but a reset edge and the completion edge leaves RES_LO, RES_HI, CF and ERR as they are, and
the completion edge writes the outcome of the latched command. -/
theorem resultsChangeOnlyAtCompletionOrReset : Obligations.ResultsChangeOnlyAtCompletionOrReset := by
  unfold Obligations.ResultsChangeOnlyAtCompletionOrReset
  intro lat inp s t hEdge
  obtain ⟨hRst, -⟩ | ⟨-, -, -, rfl⟩ | ⟨-, -, -, -, rfl⟩ | ⟨-, -, -, -, rfl⟩ | ⟨-, -, -, -, rfl⟩ |
    ⟨-, -, hBusy, hCnt, hCompletes, -⟩ := edge_next_cases hEdge
  · exact ⟨fun _ => .inl hRst, fun _ => .inl hRst⟩
  · simp
  · simp
  · simp
  · simp
  · rw [completionEdge_eq] at hCompletes
    cases hCompletes
    exact ⟨fun hChanged => .inr ⟨hBusy, hCnt, State.outcome_ok_of_complete_changes_results (s := s.tick) hChanged⟩,
      fun _ => .inr ⟨hBusy, hCnt⟩⟩

/-- Settles O1: the state is the reset edge's, which reads nothing of the sample but `rst`. -/
theorem resetEdgeGivesTheResetValues : Obligations.ResetEdgeGivesTheResetValues := by
  unfold Obligations.ResetEdgeGivesTheResetValues
  intro lat s
  refine ⟨s.resetEdge, fun inp hRst => edge_of_rst hRst lat s, ?_⟩
  rintro u (rfl | rfl)
  · simp
  · simp [State.reset]

/-- Settles O35, from what an edge before the first reset does and from the reset edge. -/
theorem useBeforeResetIsAFault : Obligations.UseBeforeResetIsAFault := by
  unfold Obligations.UseBeforeResetIsAFault
  intro lat inp s hLive
  refine ⟨fun hRst hValid => ?_, fun hRst hValid => ⟨s.tick, ?_, hLive⟩,
    fun hRst => ⟨s.resetEdge, edge_of_rst hRst lat s, rfl⟩, ?_⟩
  · simp [edge_of_not_live hRst hLive, hValid]
  · simp [edge_of_not_live hRst hLive, hValid]
  · simp [State.readOutputs, hLive]

/-- Settles O36: a reset core's read answers the outputs, each its register. -/
theorem outputsAreTheRegisters : Obligations.OutputsAreTheRegisters := by
  unfold Obligations.OutputsAreTheRegisters
  intro s hLive
  simp [State.readOutputs, State.outputs, hLive]

end Sys2Proof.Machine
end

section
/-! SUPPORT. The encoder against the decoder (30_encoding.md R80 to R83, R88): the fields of a word put together from an
operation and a width, and what the decoder and `legal` make of it. -/

namespace Sys2Proof

@[simp] theorem fieldRsv1_wordOf (op : Op) (n : Width) : fieldRsv1 (wordOf op n) = 0 := by
  cases op <;> cases n <;> rfl

@[simp] theorem fieldRsv0_wordOf (op : Op) (n : Width) : fieldRsv0 (wordOf op n) = 0 := by
  cases op <;> cases n <;> rfl

@[simp] theorem fieldOp_wordOf (op : Op) (n : Width) : fieldOp (wordOf op n) = opcodeOf op := by
  cases op <;> cases n <;> rfl

@[simp] theorem fieldW_wordOf (op : Op) (n : Width) : fieldW (wordOf op n) = widthCodeOf n := by
  cases op <;> cases n <;> rfl

@[simp] theorem decodeOp_opcodeOf (op : Op) : decodeOp (opcodeOf op) = some op := by
  cases op <;> rfl

@[simp] theorem decodeWidth_widthCodeOf (n : Width) : decodeWidth (widthCodeOf n) = some n := by
  cases n <;> rfl

theorem decode_wordOf (op : Op) (n : Width) : decode (wordOf op n) = .ok (instrOf op n) := by
  simp [decode]

@[simp] theorem instrOf_op_width (i : Instr) : instrOf i.op i.width = i := by
  cases i <;> rfl

/-- A word of the table is put together from the command's operation and width (30_encoding.md R80, R88). -/
theorem encode_eq_wordOf (i : Instr) : encode i = wordOf i.op i.width := by
  rw [← encode_instrOf, instrOf_op_width]

@[simp] theorem decode_encode (i : Instr) : decode (encode i) = .ok i := by
  rw [encode_eq_wordOf, decode_wordOf, instrOf_op_width]

theorem encode_injective : Function.Injective encode := by
  intro i j h
  have hDecode : decode (encode i) = decode (encode j) := congrArg decode h
  simpa using hDecode

theorem legal_wordOf (op : Op) (n : Width) : legal (wordOf op n) = true := by
  cases op <;> cases n <;> rfl

/-- `legal` accepts a word exactly when the decoder does (30_encoding.md R83). -/
theorem legal_eq_isSome_decode? (w : CmdWord) : legal w = (decode? w).isSome := by
  unfold decode?
  cases h : decode w with
  | error e => exact legal_eq_false_of_decode_eq_error h
  | ok i =>
    rw [eq_encode_of_decode_eq_ok h, encode_eq_wordOf]
    exact legal_wordOf i.op i.width

/-- The decoder accepts the words of the table and no other (30_encoding.md R88). -/
theorem isSome_decode?_iff {w : CmdWord} : (decode? w).isSome ↔ ∃ i, w = encode i := by
  constructor
  · unfold decode?
    cases h : decode w with
    | error e => simp
    | ok i => exact fun _ => ⟨i, eq_encode_of_decode_eq_ok h⟩
  · rintro ⟨i, rfl⟩
    simp [decode?]

end Sys2Proof
end

section
/-! PROOF. The decoder accepts the 55 words of the table and takes each to its command (30_encoding.md R83, R88). -/

namespace Sys2Proof

/-- Settles O10: the encoder gives the only word that the decoder takes to a command. -/
theorem decodeAndEncodeAgree : Obligations.DecodeAndEncodeAgree := by
  unfold Obligations.DecodeAndEncodeAgree
  intro w i
  constructor
  · exact eq_encode_of_decode_eq_ok
  · rintro rfl
    exact decode_encode i

/-- Settles O11: each word is that of its command, and 0x0000 has the reserved opcode 0. -/
theorem wordsWrittenFromTheTableDecode : Obligations.WordsWrittenFromTheTableDecode := by
  unfold Obligations.WordsWrittenFromTheTableDecode
  exact ⟨decode_encode .cmpW8, decode_encode .notW16, decode_encode .andW32, decode_encode .orW64,
    decode_encode .xorW128, decode_encode .shlW8, decode_encode .shrW16, decode_encode .addW32, decode_encode .subW64,
    decode_encode .mulW128, decode_encode .divmodW16, rfl⟩

/-- Every command: each of the eleven operations at each of the five widths (00_scope.md R2). -/
def allInstrs : List Instr :=
  [Op.cmp, .not, .and, .or, .xor, .shl, .shr, .add, .sub, .mul, .divmod].flatMap fun op =>
    [Width.w8, .w16, .w32, .w64, .w128].map (instrOf op)

theorem mem_allInstrs (i : Instr) : i ∈ allInstrs := by
  cases i <;> decide

theorem nodup_allInstrs : allInstrs.Nodup := by
  decide

/-- The words of the table, as numbers. -/
def tableWords : List Nat := allInstrs.map fun i => (encode i).toNat

theorem length_tableWords : tableWords.length = 55 := rfl

theorem nodup_tableWords : tableWords.Nodup :=
  nodup_allInstrs.map fun _ _ h => encode_injective (BitVec.eq_of_toNat_eq h)

theorem mem_tableWords_iff {n : Nat} :
    n ∈ tableWords ↔ n < 65536 ∧ (decode? (BitVec.ofNat 16 n)).isSome := by
  rw [isSome_decode?_iff]
  constructor
  · intro h
    obtain ⟨i, -, rfl⟩ := List.mem_map.mp h
    exact ⟨(encode i).isLt, i, by simp⟩
  · rintro ⟨hn, i, hi⟩
    refine List.mem_map.mpr ⟨i, mem_allInstrs i, ?_⟩
    rw [← hi, BitVec.toNat_ofNat, Nat.mod_eq_of_lt hn]

/-- The accepted words among all are the words of the table in another order. -/
theorem filter_decode?_perm_tableWords :
    ((List.range 65536).filter fun n => (decode? (BitVec.ofNat 16 n)).isSome).Perm tableWords := by
  refine (List.perm_ext_iff_of_nodup (List.nodup_range.filter _) nodup_tableWords).mpr fun n => ?_
  rw [List.mem_filter, List.mem_range, mem_tableWords_iff]

/-- Among the first `m` words, those that fail `legal` are those that the decoder does not accept. -/
theorem length_filter_not_legal (m : Nat) :
    ((List.range m).filter fun n => !legal (BitVec.ofNat 16 n)).length =
      m - ((List.range m).filter fun n => (decode? (BitVec.ofNat 16 n)).isSome).length := by
  have hAll := List.length_eq_length_filter_add (l := List.range m) fun n => (decode? (BitVec.ofNat 16 n)).isSome
  rw [List.length_range] at hAll
  simp only [legal_eq_isSome_decode?]
  omega

/-- Settles O9: the accepted words are the table's, and `legal` fails on all the others. -/
theorem fiftyFiveWordsAreLegal : Obligations.FiftyFiveWordsAreLegal := by
  unfold Obligations.FiftyFiveWordsAreLegal
  have hAccepted := filter_decode?_perm_tableWords.length_eq
  rw [length_tableWords] at hAccepted
  exact ⟨hAccepted, by rw [length_filter_not_legal, hAccepted]⟩

end Sys2Proof
end

section
/-! SUPPORT. `Exec` of a word put together from an operation and a width: the outcome of that operation's own meaning
(40_engine.md R100), so that no later proof reads a word's fields. -/

namespace Sys2Proof.Machine

/-- The outcome that the commands of an operation complete with at width `N`. -/
def opOutcome : Op → Nat → Bus → Bus → CmdOutcome
  | .cmp => cmpOutcome
  | .not => notOutcome
  | .and => andOutcome
  | .or => orOutcome
  | .xor => xorOutcome
  | .shl => shlOutcome
  | .shr => shrOutcome
  | .add => addOutcome
  | .sub => subOutcome
  | .mul => mulOutcome
  | .divmod => divmodOutcome

theorem commandOutcome_wordOf (op : Op) (n : Width) (a b : Bus) :
    commandOutcome (wordOf op n) a b = opOutcome op n.bits a b := by
  cases op <;> cases n <;> rfl

/-- A command completes with the outcome of its operation at its width. -/
theorem commandOutcome_encode (i : Instr) (a b : Bus) :
    commandOutcome (encode i) a b = opOutcome i.op i.width.bits a b := by
  rw [encode_eq_wordOf, commandOutcome_wordOf]

theorem operand_congr {N : Nat} {a a' : Bus} (h : a.toNat % 2 ^ N = a'.toNat % 2 ^ N) : operand N a = operand N a' := by
  apply BitVec.eq_of_toNat_eq
  simpa using h

theorem distance_congr {b b' : Bus} (h : b.toNat % 256 = b'.toNat % 256) : distance b = distance b' := by
  apply BitVec.eq_of_toNat_eq
  simpa using h

end Sys2Proof.Machine
end

section
/-! PROOF. The bits of the buses above what a command takes bear on nothing (30_encoding.md R84, R85). -/

namespace Sys2Proof.Machine

variable {N : Nat} {a a' b b' : Bus}

/-- A shift reads `opa` at its width and the distance (30_encoding.md R85). -/
theorem opOutcome_shift_congr {op : Op} (hOp : op = .shl ∨ op = .shr) (hA : operand N a = operand N a')
    (hDist : distance b = distance b') : opOutcome op N a b = opOutcome op N a' b' := by
  obtain rfl | rfl := hOp
  · simp [opOutcome, shlOutcome, hA, hDist]
  · simp [opOutcome, shrOutcome, hA, hDist]

/-- Every other operation reads both buses at its width, if it reads them (30_encoding.md R84). -/
theorem opOutcome_congr {op : Op} (hShl : op ≠ .shl) (hShr : op ≠ .shr) (hA : operand N a = operand N a')
    (hB : operand N b = operand N b') : opOutcome op N a b = opOutcome op N a' b' := by
  cases op with
  | shl => exact absurd rfl hShl
  | shr => exact absurd rfl hShr
  | cmp => simp [opOutcome, cmpOutcome, hA, hB]
  | not => simp [opOutcome, notOutcome, hA]
  | and => simp [opOutcome, andOutcome, hA, hB]
  | or => simp [opOutcome, orOutcome, hA, hB]
  | xor => simp [opOutcome, xorOutcome, hA, hB]
  | add => simp [opOutcome, addOutcome, hA, hB]
  | sub => simp [opOutcome, subOutcome, hA, hB]
  | mul => simp [opOutcome, mulOutcome, hA, hB]
  | divmod => simp [opOutcome, divmodOutcome, hA, hB]

/-- Settles O26: the outcome reads the buses through the operands and the distance alone. -/
theorem upperOperandBitsAreIgnored : Obligations.UpperOperandBitsAreIgnored := by
  unfold Obligations.UpperOperandBitsAreIgnored
  intro i a a' b b' hA hB
  rw [commandOutcome_encode, commandOutcome_encode]
  have hA := operand_congr hA
  obtain hNot | ⟨hShift, hDist⟩ | ⟨hB, hShl, hShr⟩ := hB
  · simp [hNot, opOutcome, notOutcome, hA]
  · exact opOutcome_shift_congr hShift hA (distance_congr hDist)
  · exact opOutcome_congr hShl hShr hA (operand_congr hB)

end Sys2Proof.Machine
end

section
/-! SUPPORT. The outcomes of CMP, NOT and ADD as numbers, and the operands and results that the expansions of the
pseudo-instructions pass on (30_encoding.md R91). -/

namespace Sys2Proof

theorem Width.eight_le_bits (n : Width) : 8 ≤ n.bits := by
  cases n <;> decide

theorem Width.bits_le_bus (n : Width) : n.bits ≤ 128 := by
  cases n <;> decide

end Sys2Proof

namespace Sys2Proof.Machine

variable {N : Nat}

theorem zext128_eq_ofNat (v : BitVec N) : zext128 v = BitVec.ofNat 128 v.toNat := by
  apply BitVec.eq_of_toNat_eq
  simp [zext128]

/-- A result register read back at the width of the result is the result (30_encoding.md R84, 40_engine.md R101). -/
theorem operand_zext128 (v : BitVec N) (h : N ≤ 128) : operand N (zext128 v) = v := by
  apply BitVec.eq_of_toNat_eq
  rw [operand_toNat, zext128_toNat v h, Nat.mod_eq_of_lt v.isLt]

/-- ADD as numbers (44_add.md R160). -/
theorem okOf_addValue (A B : BitVec N) : okOf (addValue A B) =
    .ok (BitVec.ofNat 128 ((A.toNat + B.toNat) % 2 ^ N)) 0 (decide (2 ^ N ≤ A.toNat + B.toNat)) := by
  simp [okOf, zext128_eq_ofNat, carryOut]

/-- NOT as a number (42_bitwise.md R140). -/
theorem bitNot_lo_toNat (A : BitVec N) : (bitNot A).lo.toNat = 2 ^ N - 1 - A.toNat := by
  simp [bitNot]

/-- CMP's code as a number (41_compare.md R130). -/
theorem cmpValue_lo_toNat (A B : BitVec N) (hN : 0 < N) : (cmpValue A B).lo.toNat =
    if A.toNat = B.toNat then 0 else if B.toNat < A.toNat then 1 else 2 ^ N - 1 := by
  unfold cmpValue
  split
  · simp
  · split
    · simpa using hN
    · simp

/-- RES_LO of CMP is 0 exactly for equal operands, since 1 and 2^N - 1 are not 0. -/
theorem zext128_cmpValue_lo_eq_zero_iff (A B : BitVec N) (hN : 0 < N) (hBus : N ≤ 128) :
    zext128 (cmpValue A B).lo = 0 ↔ A.toNat = B.toNat := by
  have hOne : 1 < 2 ^ N := Nat.one_lt_two_pow (by omega)
  rw [← BitVec.toNat_inj, zext128_toNat _ hBus, cmpValue_lo_toNat A B hN, show (0 : Bus).toNat = 0 from rfl]
  split
  · omega
  · split <;> omega

/-- RES_LO of CMP is 1 exactly where the first operand is greater, since 2^N - 1 is not 1. -/
theorem zext128_cmpValue_lo_eq_one_iff (A B : BitVec N) (hN : 2 ≤ N) (hBus : N ≤ 128) :
    zext128 (cmpValue A B).lo = 1 ↔ B.toNat < A.toNat := by
  have hFour : 2 ^ 2 ≤ 2 ^ N := Nat.pow_le_pow_right (by decide) hN
  rw [← BitVec.toNat_inj, zext128_toNat _ hBus, cmpValue_lo_toNat A B (by omega), show (1 : Bus).toNat = 1 from rfl]
  split
  · omega
  · split <;> omega

end Sys2Proof.Machine
end

section
/-! PROOF. The pseudo-instructions give the results of their expansions (30_encoding.md R91). -/

namespace Sys2Proof.Machine

variable (n : Width) (a b : Bus)

theorem operand_one_toNat : (operand n.bits 1).toNat = 1 := by
  have := n.eight_le_bits
  rw [operand_toNat]
  exact Nat.mod_eq_of_lt (Nat.one_lt_two_pow (by omega))

theorem pseudoInc_eq : pseudoInc n a = okOf (addValue (operand n.bits a) (operand n.bits 1)) :=
  commandOutcome_wordOf .add n a 1

/-- ADD reads the complement back from RES_LO whole. -/
theorem pseudoNeg_eq : pseudoNeg n a = okOf (addValue (bitNot (operand n.bits a)).lo (operand n.bits 1)) := by
  have hRead := operand_zext128 (bitNot (operand n.bits a)).lo n.bits_le_bus
  simp only [pseudoNeg, commandOutcome_wordOf, opOutcome, notOutcome, addOutcome, okOf, hRead]

/-- A predicate reads RES_LO and CF of CMP's value. -/
theorem ofCmp_eq (read : Bus → Bool → Bool) : ofCmp read n a b =
    read (zext128 (cmpValue (operand n.bits a) (operand n.bits b)).lo)
      (borrow (operand n.bits a) (operand n.bits b)) := by
  rw [ofCmp, commandOutcome_wordOf]
  rfl

theorem pseudoEq_iff : pseudoEq n a b = true ↔ a.toNat % 2 ^ n.bits = b.toNat % 2 ^ n.bits := by
  have := n.eight_le_bits
  rw [pseudoEq, ofCmp_eq, decide_eq_true_iff, zext128_cmpValue_lo_eq_zero_iff _ _ (by omega) n.bits_le_bus,
    operand_toNat, operand_toNat]

theorem pseudoLt_iff : pseudoLt n a b = true ↔ a.toNat % 2 ^ n.bits < b.toNat % 2 ^ n.bits := by
  rw [pseudoLt, ofCmp_eq, borrow_eq_true, operand_toNat, operand_toNat]

theorem pseudoGt_iff : pseudoGt n a b = true ↔ b.toNat % 2 ^ n.bits < a.toNat % 2 ^ n.bits := by
  have := n.eight_le_bits
  rw [pseudoGt, ofCmp_eq, decide_eq_true_iff, zext128_cmpValue_lo_eq_one_iff _ _ (by omega) n.bits_le_bus,
    operand_toNat, operand_toNat]

/-- LTE reads what GT reads and answers the opposite. -/
theorem pseudoLte_iff : pseudoLte n a b = true ↔ a.toNat % 2 ^ n.bits ≤ b.toNat % 2 ^ n.bits := by
  rw [← not_lt, ← pseudoGt_iff]
  simp [pseudoLte, pseudoGt, ofCmp_eq]

/-- GTE reads what LT reads and answers the opposite. -/
theorem pseudoGte_iff : pseudoGte n a b = true ↔ b.toNat % 2 ^ n.bits ≤ a.toNat % 2 ^ n.bits := by
  rw [← not_lt, ← pseudoLt_iff]
  simp [pseudoGte, pseudoLt, ofCmp_eq]

theorem pseudoIsPos_iff : pseudoIsPos n a = true ↔ 0 < a.toNat % 2 ^ n.bits := by
  rw [pseudoIsPos, pseudoGt_iff]
  rfl

/-- INC as numbers. -/
theorem pseudoInc_eq_ofNat : pseudoInc n a =
    .ok (BitVec.ofNat 128 ((a.toNat % 2 ^ n.bits + 1) % 2 ^ n.bits)) 0
      (decide (2 ^ n.bits ≤ a.toNat % 2 ^ n.bits + 1)) := by
  rw [pseudoInc_eq, okOf_addValue, operand_one_toNat, operand_toNat]

/-- The complement plus 1 is the negation (30_encoding.md R91). -/
theorem exists_pseudoNeg_eq_ofNat : ∃ cf, pseudoNeg n a =
    .ok (BitVec.ofNat 128 ((2 ^ n.bits - a.toNat % 2 ^ n.bits) % 2 ^ n.bits)) 0 cf := by
  have hA : a.toNat % 2 ^ n.bits < 2 ^ n.bits := Nat.mod_lt _ (Nat.two_pow_pos _)
  have hNeg : 2 ^ n.bits - 1 - a.toNat % 2 ^ n.bits + 1 = 2 ^ n.bits - a.toNat % 2 ^ n.bits := by omega
  rw [pseudoNeg_eq, okOf_addValue, bitNot_lo_toNat, operand_one_toNat, operand_toNat, hNeg]
  exact ⟨_, rfl⟩

/-- Settles O54, pseudo-instruction by pseudo-instruction. -/
theorem pseudoInstructionsGiveTheirResults : Obligations.PseudoInstructionsGiveTheirResults := by
  unfold Obligations.PseudoInstructionsGiveTheirResults
  refine ⟨?_, fun n k v => ⟨fun hk => ?_, fun hk => ?_⟩⟩
  · rintro n a b A B rfl rfl
    exact ⟨pseudoInc_eq_ofNat n a, exists_pseudoNeg_eq_ofNat n a, pseudoEq_iff n a b, pseudoLt_iff n a b,
      pseudoLte_iff n a b, pseudoGt_iff n a b, pseudoGte_iff n a b, pseudoIsPos_iff n a⟩
  · exact ⟨v.setWidth k, if_pos (by simpa using hk), BitVec.toNat_setWidth ..⟩
  · exact if_neg (by simpa using hk)

end Sys2Proof.Machine
end

section
/-! SUPPORT. Beside Laws/Edge.lean: the four edges of a core that has been reset, as equations (40_engine.md R103, R104,
R106). -/

namespace Sys2Proof.Machine

variable {lat : Latency} {inp : Inputs} {s : State}

theorem edge_of_live (hRst : inp.rst = false) (hLive : s.live = true) : edge lat inp s = liveEdge lat inp s.tick := by
  simp [edge, hRst, hLive]

theorem edge_accept (hLive : s.live = true) (hRst : inp.rst = false) (hBusy : s.busy = false)
    (hValid : inp.cmdValid = true) : edge lat inp s = .next (s.tick.accept lat inp) := by
  simp [edge_of_live hRst hLive, liveEdge, hBusy, hValid]

theorem edge_idle (hLive : s.live = true) (hRst : inp.rst = false) (hBusy : s.busy = false)
    (hValid : inp.cmdValid = false) : edge lat inp s = .next s.tick.idle := by
  simp [edge_of_live hRst hLive, liveEdge, hBusy, hValid]

theorem edge_completion (hLive : s.live = true) (hRst : inp.rst = false) (hBusy : s.busy = true) (hCnt : s.cnt = 1) :
    edge lat inp s = completionEdge s.tick := by
  simp [edge_of_live hRst hLive, liveEdge, hBusy, hCnt]

theorem edge_countDown (hLive : s.live = true) (hRst : inp.rst = false) (hBusy : s.busy = true) (hCnt : s.cnt ≠ 1) :
    edge lat inp s = .next s.tick.countDown := by
  simp [edge_of_live hRst hLive, liveEdge, hBusy, hCnt]

/-- The reset mark is never cleared (10_state.md R49). -/
theorem live_of_edge {t : State} (hLive : s.live = true) (hEdge : edge lat inp s = .next t) : t.live = true := by
  obtain ⟨-, rfl⟩ | ⟨-, hNotLive, -⟩ | ⟨-, -, -, -, rfl⟩ | ⟨-, -, -, -, rfl⟩ | ⟨-, -, -, -, rfl⟩ |
    ⟨-, -, -, -, -, o, rfl⟩ := edge_next_cases hEdge
  · exact s.resetEdge_live
  · simp [hLive] at hNotLive
  · exact hLive
  · exact hLive
  · exact hLive
  · simpa using hLive

theorem completionEdge_of_decode {i : Instr} (h : decode s.cmdL = .ok i) : completionEdge s = exec i s := by
  simp [completionEdge, h]

end Sys2Proof.Machine
end

section
/-! PROOF. The edges of a core that has been reset, one by one, and the step (40_engine.md R103 to R108). -/

namespace Sys2Proof.Machine

/-- Settles O2, by the accept edge and the form of the latency. -/
theorem acceptEdgeLatchesCommand : Obligations.AcceptEdgeLatchesCommand := by
  unfold Obligations.AcceptEdgeLatchesCommand
  exact ⟨fun lat inp s hLive hRst hBusy hValid => edge_accept hLive hRst hBusy hValid, Config_LAT_pos⟩

/-- Settles O3: a busy edge is the completion edge or counts down, and neither reads the sample. -/
theorem commandPresentedWhileBusyIsIgnored : Obligations.CommandPresentedWhileBusyIsIgnored := by
  unfold Obligations.CommandPresentedWhileBusyIsIgnored
  intro lat inp inp' s hLive hBusy hRst hRst'
  refine ⟨by simp [State.outputs, hBusy], ?_, edge_countDown hLive hRst hBusy⟩
  by_cases hCnt : s.cnt = 1
  · rw [edge_completion hLive hRst hBusy hCnt, edge_completion hLive hRst' hBusy hCnt]
  · rw [edge_countDown hLive hRst hBusy hCnt, edge_countDown hLive hRst' hBusy hCnt]

/-- Settles O4: the completion edge goes through the decoder and the dispatch and writes `Exec` of the latched word. -/
theorem completionEdgeWritesTheOutcome : Obligations.CompletionEdgeWritesTheOutcome := by
  unfold Obligations.CompletionEdgeWritesTheOutcome
  intro lat inp s hLive hBusy hRst
  by_cases hCnt : s.cnt = 1
  · rw [edge_completion hLive hRst hBusy hCnt, completionEdge_eq, if_pos hCnt, State.tick_cmdL, State.tick_aL,
      State.tick_bL]
    cases commandOutcome s.cmdL s.aL s.bL with
    | ok lo hi cf => rfl
    | err c => cases c <;> rfl
  · rw [edge_countDown hLive hRst hBusy hCnt, if_neg hCnt]
    rfl

/-- Settles O5, by the idle edge. -/
theorem idleEdgeClearsDoneOnly : Obligations.IdleEdgeClearsDoneOnly := by
  unfold Obligations.IdleEdgeClearsDoneOnly
  exact fun lat inp s hLive hRst hBusy hValid => edge_idle hLive hRst hBusy hValid

/-- Settles O6: the step is the completion edge, whose word decodes. -/
theorem stepRunsTheDecodedCommand : Obligations.StepRunsTheDecodedCommand := by
  unfold Obligations.StepRunsTheDecodedCommand
  intro s i hLive hBusy hCnt hRst hDecode
  have hEdge : step s = completionEdge s.popSample.tick := edge_completion hLive hRst hBusy hCnt
  exact hEdge.trans (completionEdge_of_decode hDecode)

/-- Settles O7: the placed word stands in CMD_L of a state at its completion edge. -/
theorem stepRunsThePlacedWord : Obligations.StepRunsThePlacedWord := by
  unfold Obligations.StepRunsThePlacedWord
  intro s w i hDecode
  have hWord : (s.withFetchWord 16 w).cmdL = BitVec.ofNat 16 w := by
    apply BitVec.eq_of_toNat_eq
    simp
  rw [stepRunsTheDecodedCommand (s.withFetchWord 16 w) i rfl rfl rfl rfl (by rw [hWord, hDecode]), ← hWord]
  rfl

/-- Settles O37: an edge of a reset core answers a next state and keeps the mark, whatever is sampled. -/
theorem resetCoreAlwaysStepsAndStaysReset : Obligations.ResetCoreAlwaysStepsAndStaysReset := by
  unfold Obligations.ResetCoreAlwaysStepsAndStaysReset
  intro s hLive
  obtain ⟨t, hStep⟩ := exists_edge_eq_next_of_live (s := s.popSample) hLive Config.LAT s.sample
  exact ⟨t, hStep, live_of_edge (s := s.popSample) hLive hStep⟩

end Sys2Proof.Machine
end

section
/-! PROOF. What a command does to the state: it completes with its pure outcome, an Ok result is below 2^N, and the rest
of the state is as before (40_engine.md R100, R101, R104, R105, 60_exceptions.md R204). -/

namespace Sys2Proof.Machine

/-- Settles O24: `finish` is the completion. -/
theorem everyCommandIsItsPureOutcome : Obligations.EveryCommandIsItsPureOutcome := by
  unfold Obligations.EveryCommandIsItsPureOutcome
  exact exec_eq_finish

/-- An operation of width N gives a triple of width N, zero-extended, or reports DZ (40_engine.md R100, R101). -/
theorem opOutcome_eq_okOf_or_dz (op : Op) (N : Nat) (a b : Bus) :
    (∃ t : Triple N, opOutcome op N a b = okOf t) ∨ opOutcome op N a b = .err .dz := by
  cases op with
  | divmod =>
    by_cases hB : operand N b = 0
    · exact .inr (if_pos hB)
    · exact .inl ⟨_, if_neg hB⟩
  | _ => exact .inl ⟨_, rfl⟩

theorem zext128_toNat_lt {N : Nat} (v : BitVec N) : (zext128 v).toNat < 2 ^ N := by
  rw [zext128, BitVec.toNat_setWidth]
  exact (Nat.mod_le _ _).trans_lt v.isLt

/-- Settles O25: what is written is the zero extension of two values of width N, since ERR 0 excludes the error. -/
theorem resultsAreZeroExtended : Obligations.ResultsAreZeroExtended := by
  unfold Obligations.ResultsAreZeroExtended
  intro i s t hExec hErr
  rw [everyCommandIsItsPureOutcome, commandOutcome_encode] at hExec
  cases hExec
  obtain ⟨r, hOk⟩ | hDz := opOutcome_eq_okOf_or_dz i.op i.width.bits s.aL s.bL
  · rw [hOk]
    exact ⟨zext128_toNat_lt r.lo, zext128_toNat_lt r.hi⟩
  · simp [hDz, errValue] at hErr

/-- Settles O27: a completion with any outcome leaves them as they are, and one with an error writes ERR alone. -/
theorem commandsLeaveTheRestUnchanged : Obligations.CommandsLeaveTheRestUnchanged := by
  unfold Obligations.CommandsLeaveTheRestUnchanged
  intro i s t hExec
  obtain ⟨o, hCompletes⟩ := exec_completes i s
  rw [hCompletes] at hExec
  cases hExec
  cases o with
  | ok lo hi cf => simp
  | err c => simp

end Sys2Proof.Machine
end

section
/-! PROOF. A command completes as many edges after its accept edge as its latency says (40_engine.md R103, R104, R109). -/

namespace Sys2Proof.Machine

/-- A core with CNT edges to go completes at the last of them with `Exec` of what it has latched; up to there the results
stay as they are. The state `r` is the one before that completion. -/
theorem edges_busy_complete (lat : Latency) (rest : List Inputs) {s : State} (hLive : s.live = true)
    (hBusy : s.busy = true) (hRst : ∀ x ∈ rest, x.rst = false) (hPos : 1 ≤ s.cnt) (hLen : rest.length = s.cnt) :
    ∃ r : State, edges lat rest s = .next (r.complete (commandOutcome s.cmdL s.aL s.bL)) ∧
      r.resLo = s.resLo ∧ r.resHi = s.resHi ∧ r.cf = s.cf := by
  induction rest generalizing s with
  | nil => simp at hLen; omega
  | cons x rest ih =>
    obtain ⟨hFirst, hRest⟩ := List.forall_mem_cons.mp hRst
    rw [List.length_cons] at hLen
    by_cases hCnt : s.cnt = 1
    · have hEdge := edge_completion (lat := lat) hLive hFirst hBusy hCnt
      rw [completionEdge_eq] at hEdge
      obtain rfl : rest = [] := List.eq_nil_of_length_eq_zero (by omega)
      exact ⟨s.tick, edges_cons_next hEdge, rfl, rfl, rfl⟩
    · rw [edges_cons_next (edge_countDown hLive hFirst hBusy hCnt)]
      exact ih (s := s.tick.countDown) hLive hBusy hRest (by simp; omega) (by simp; omega)

/-- Settles O30: the accept edge latches the command with CNT its latency, and the further edges count it down. -/
theorem commandCompletesAfterItsLatency : Obligations.CommandCompletesAfterItsLatency := by
  unfold Obligations.CommandCompletesAfterItsLatency
  intro lat s inp rest hLat hLive hBusy hRst hValid hRest hLen
  obtain ⟨r, hEdges, hLo, hHi, hCf⟩ := edges_busy_complete lat rest (s := s.tick.accept lat inp) hLive rfl hRest
    (hLat _ _ _) hLen
  refine ⟨_, (edges_cons_next (edge_accept hLive hRst hBusy hValid)).trans hEdges, rfl, rfl, rfl, ?_⟩
  rw [State.accept_cmdL, State.accept_aL, State.accept_bL]
  cases commandOutcome inp.cmdWord inp.opa inp.opb with
  | ok lo hi cf => exact ⟨rfl, rfl, rfl, rfl⟩
  | err c => exact ⟨hLo, hHi, hCf, rfl⟩

end Sys2Proof.Machine
end

section
/-! SUPPORT. A word and its two limbs (00_scope.md R9): the word's number and bits from those of the limbs. -/

namespace Sys2Proof.Machine

variable {h : Nat} (v : BitVec (h + h)) (H L : BitVec h) (i : Nat)

theorem toNat_eq_limbs : v.toNat = 2 ^ h * (hiLimb v).toNat + (loLimb v).toNat := by
  rw [hiLimb_toNat, loLimb_toNat, Nat.div_add_mod]

theorem joinLimbs_toNat : (joinLimbs H L).toNat = 2 ^ h * H.toNat + L.toNat := by
  rw [joinLimbs, BitVec.toNat_append, ← Nat.shiftLeft_add_eq_or_of_lt L.isLt, Nat.shiftLeft_eq, Nat.mul_comm]

theorem joinLimbs_hiLimb_loLimb : joinLimbs (hiLimb v) (loLimb v) = v := by
  apply BitVec.eq_of_toNat_eq
  rw [joinLimbs_toNat, ← toNat_eq_limbs]

theorem joinLimbs_zero_zero : joinLimbs (0 : BitVec h) 0 = 0 := by
  simp [joinLimbs]

theorem hiLimb_getLsbD_iff : (hiLimb v).getLsbD i = true ↔ i < h ∧ v.getLsbD (h + i) = true := by
  simp [hiLimb]

theorem loLimb_getLsbD_iff : (loLimb v).getLsbD i = true ↔ i < h ∧ v.getLsbD i = true := by
  simp [loLimb]

theorem joinLimbs_getLsbD : (joinLimbs H L).getLsbD i = if i < h then L.getLsbD i else H.getLsbD (i - h) :=
  BitVec.getLsbD_append

theorem triple_ext {N : Nat} {t u : Triple N} (hLo : t.lo = u.lo) (hHi : t.hi = u.hi) (hCf : t.cf = u.cf) :
    t = u := by
  cases t
  cases u
  simp_all

end Sys2Proof.Machine
end

section
/-! SUPPORT. NOT, AND, OR, XOR, SHL and SHR from two limbs (42_bitwise.md R144, 43_shift.md R152 to R154). -/

namespace Sys2Proof.Machine

variable {h : Nat} (A B : BitVec (h + h))

theorem notLimbs_eq_bitNot : notLimbs A = bitNot A := by
  rw [notLimbs, joinLimbs, ← BitVec.not_append]
  exact congrArg bitNot (joinLimbs_hiLimb_loLimb A)

/-- An operation on bits gives the same on each limb as on the whole word. -/
theorem limbwise_eq_plainResult {f : BitVec h → BitVec h → Triple h}
    {g : BitVec (h + h) → BitVec (h + h) → BitVec (h + h)}
    (hAppend : ∀ H H' L L', g (H ++ L) (H' ++ L') = (f H H').lo ++ (f L L').lo) :
    limbwise f A B = plainResult (g A B) := by
  rw [limbwise, joinLimbs, ← hAppend]
  exact congrArg plainResult (congrArg₂ g (joinLimbs_hiLimb_loLimb A) (joinLimbs_hiLimb_loLimb B))

theorem limbwise_bitAnd : limbwise bitAnd A B = bitAnd A B :=
  limbwise_eq_plainResult A B fun _ _ _ _ => BitVec.and_append

theorem limbwise_bitOr : limbwise bitOr A B = bitOr A B :=
  limbwise_eq_plainResult A B fun _ _ _ _ => BitVec.or_append

theorem limbwise_bitXor : limbwise bitXor A B = bitXor A B :=
  limbwise_eq_plainResult A B fun _ _ _ _ => BitVec.xor_append

theorem shiftLeft_getLsbD_iff {N : Nat} (v : BitVec N) (d i : Nat) :
    (v <<< d).getLsbD i = true ↔ i < N ∧ d ≤ i ∧ v.getLsbD (i - d) = true := by
  simp [and_assoc]

/-- Below the limb width the top `d` bits of the low limb move into the high limb. -/
theorem shiftLeft_of_lt {d : Nat} (hd : d < h) :
    A <<< d = joinLimbs ((hiLimb A <<< d) ||| (loLimb A >>> (h - d))) (loLimb A <<< d) := by
  refine BitVec.eq_of_getLsbD_eq fun i hi => Bool.eq_iff_iff.mpr ?_
  rw [joinLimbs_getLsbD, shiftLeft_getLsbD_iff]
  split
  next hLow =>
    rw [shiftLeft_getLsbD_iff, loLimb_getLsbD_iff]
    grind
  next hHigh =>
    rw [BitVec.getLsbD_or, Bool.or_eq_true, shiftLeft_getLsbD_iff, BitVec.getLsbD_ushiftRight, hiLimb_getLsbD_iff,
      loLimb_getLsbD_iff]
    grind

/-- From the limb width on only bits of the low limb are left, all in the high limb. -/
theorem shiftLeft_of_le {d : Nat} (hd : h ≤ d) : A <<< d = joinLimbs (loLimb A <<< (d - h)) 0 := by
  refine BitVec.eq_of_getLsbD_eq fun i hi => Bool.eq_iff_iff.mpr ?_
  rw [joinLimbs_getLsbD, shiftLeft_getLsbD_iff]
  split
  next hLow => simp; omega
  next hHigh =>
    rw [shiftLeft_getLsbD_iff, loLimb_getLsbD_iff]
    grind

/-- Below the limb width the low `d` bits of the high limb move into the low limb. -/
theorem shiftRight_of_lt {d : Nat} (hd : d < h) :
    A >>> d = joinLimbs (hiLimb A >>> d) ((loLimb A >>> d) ||| (hiLimb A <<< (h - d))) := by
  refine BitVec.eq_of_getLsbD_eq fun i hi => Bool.eq_iff_iff.mpr ?_
  rw [joinLimbs_getLsbD, BitVec.getLsbD_ushiftRight]
  split
  next hLow =>
    rw [BitVec.getLsbD_or, Bool.or_eq_true, shiftLeft_getLsbD_iff, BitVec.getLsbD_ushiftRight, hiLimb_getLsbD_iff,
      loLimb_getLsbD_iff]
    grind
  next hHigh =>
    rw [BitVec.getLsbD_ushiftRight, hiLimb_getLsbD_iff]
    grind

/-- From the limb width on only bits of the high limb are left, all in the low limb. -/
theorem shiftRight_of_le {d : Nat} (hd : h ≤ d) : A >>> d = joinLimbs 0 (hiLimb A >>> (d - h)) := by
  refine BitVec.eq_of_getLsbD_eq fun i hi => Bool.eq_iff_iff.mpr ?_
  rw [joinLimbs_getLsbD, BitVec.getLsbD_ushiftRight]
  split
  next hLow =>
    rw [BitVec.getLsbD_ushiftRight, hiLimb_getLsbD_iff]
    grind
  next hHigh =>
    rw [BitVec.getLsbD_of_ge _ _ (by omega)]
    simp

theorem shlLimbs_eq_shlValue (d : Distance) : shlLimbs A d = shlValue A d := by
  refine congrArg plainResult ?_
  split_ifs with hBig hZero hLow hEq
  · exact joinLimbs_zero_zero
  · rw [joinLimbs_hiLimb_loLimb, hZero, BitVec.shiftLeft_zero]
  · exact (shiftLeft_of_lt A hLow).symm
  · rw [shiftLeft_of_le A hEq.ge, hEq, Nat.sub_self, BitVec.shiftLeft_zero]
  · exact (shiftLeft_of_le A (not_lt.mp hLow)).symm

theorem shrLimbs_eq_shrValue (d : Distance) : shrLimbs A d = shrValue A d := by
  refine congrArg plainResult ?_
  split_ifs with hBig hZero hLow hEq
  · exact joinLimbs_zero_zero
  · rw [joinLimbs_hiLimb_loLimb, hZero, BitVec.ushiftRight_zero]
  · exact (shiftRight_of_lt A hLow).symm
  · rw [shiftRight_of_le A hEq.ge, hEq, Nat.sub_self, BitVec.ushiftRight_zero]
  · exact (shiftRight_of_le A (not_lt.mp hLow)).symm

end Sys2Proof.Machine
end

section
/-! SUPPORT. CMP from one backing word and from two limbs (41_compare.md R131, R132). The sign of the difference of the
operands is what each form computes. -/

namespace Sys2Proof.Machine

/-- The comparison of one backing word is unsigned: it is decided by the sign bits where they differ, and where they
agree the signed values differ by as much as the unsigned ones (41_compare.md R131). -/
theorem cmpWord_eq_sign {M : Nat} (A B : BitVec M) : cmpWord A B = ((A.toNat : Int) - B.toNat).sign := by
  rw [cmpWord, BitVec.toInt_eq_msb_cond, BitVec.toInt_eq_msb_cond]
  cases hA : A.msb <;> cases hB : B.msb
  case false.false => simp
  case true.true => simp
  case false.true =>
    have hLow := BitVec.msb_eq_false_iff_two_mul_lt.mp hA
    have hHigh := BitVec.msb_eq_true_iff_two_mul_ge.mp hB
    exact (Int.sign_eq_neg_one_of_neg (by omega)).symm
  case true.false =>
    have hHigh := BitVec.msb_eq_true_iff_two_mul_ge.mp hA
    have hLow := BitVec.msb_eq_false_iff_two_mul_lt.mp hB
    exact (Int.sign_eq_one_of_pos (by omega)).symm

/-- CMP's code and flag read the sign alone (41_compare.md R130). -/
theorem cmpValue_eq_cmpCode {N : Nat} (A B : BitVec N) : cmpValue A B =
    ⟨cmpCode N ((A.toNat : Int) - B.toNat).sign, 0, decide (((A.toNat : Int) - B.toNat).sign = -1)⟩ := by
  rw [cmpValue, borrow]
  obtain hLt | hEq | hGt := lt_trichotomy A.toNat B.toNat
  · rw [Int.sign_eq_neg_one_of_neg (by omega)]
    simp [cmpCode, hLt, hLt.ne, hLt.le]
  · simp [cmpCode, hEq]
  · rw [Int.sign_eq_one_of_pos (by omega)]
    simp [cmpCode, hGt, hGt.ne', hGt.le]

variable {h : Nat} (A B : BitVec (h + h))

theorem toNat_lt_of_hiLimb_lt {A B : BitVec (h + h)} (hLt : (hiLimb A).toNat < (hiLimb B).toNat) :
    A.toNat < B.toNat := by
  rw [hiLimb_toNat, hiLimb_toNat] at hLt
  exact Nat.lt_of_div_lt_div hLt

theorem sign_sub_eq_limbs : ((A.toNat : Int) - B.toNat).sign =
    if (((hiLimb A).toNat : Int) - (hiLimb B).toNat).sign = 0 then
      (((loLimb A).toNat : Int) - (loLimb B).toNat).sign
    else (((hiLimb A).toNat : Int) - (hiLimb B).toNat).sign := by
  obtain hLt | hEq | hGt := lt_trichotomy (hiLimb A).toNat (hiLimb B).toNat
  · have := toNat_lt_of_hiLimb_lt hLt
    rw [Int.sign_eq_neg_one_of_neg (by omega), Int.sign_eq_neg_one_of_neg (by omega)]
    simp
  · rw [toNat_eq_limbs A, toNat_eq_limbs B, hEq]
    simp
  · have := toNat_lt_of_hiLimb_lt hGt
    rw [Int.sign_eq_one_of_pos (by omega), Int.sign_eq_one_of_pos (by omega)]
    simp

theorem cmpLimbs_eq_cmpValue : cmpLimbs A B = cmpValue A B := by
  rw [cmpValue_eq_cmpCode, sign_sub_eq_limbs, ← cmpWord_eq_sign, ← cmpWord_eq_sign, cmpLimbs]

end Sys2Proof.Machine
end

section
/-! SUPPORT. ADD from two limbs, and SUB by negation at one width and from two limbs (44_add.md R162, 45_sub.md R172). -/

namespace Sys2Proof.Machine

section OneWidth

variable {N : Nat} (A B : BitVec N)

theorem carryOut_toNat : (carryOut A B).toNat = (A.toNat + B.toNat) / 2 ^ N := by
  have hA := A.isLt
  have hB := B.isLt
  by_cases hCarry : 2 ^ N ≤ A.toNat + B.toNat
  · rw [carryOut, decide_eq_true hCarry, Bool.toNat_true]
    exact (Nat.div_eq_of_lt_le (by omega) (by omega)).symm
  · rw [carryOut, decide_eq_false hCarry, Bool.toNat_false, Nat.div_eq_of_lt (not_le.mp hCarry)]

/-- The carry fits the width, also at width 0, where there is none. -/
theorem bitValue_carryOut_toNat : (bitValue N (carryOut A B)).toNat = (carryOut A B).toNat := by
  have hA := A.isLt
  have hB := B.isLt
  rw [bitValue, BitVec.toNat_ofNat, carryOut_toNat]
  exact Nat.mod_eq_of_lt (Nat.div_lt_of_lt_mul (by nlinarith))

/-- ADD keeps the exact sum, in the sum and the carry (44_add.md R160). -/
theorem addValue_sum : A.toNat + B.toNat = (addValue A B).lo.toNat + 2 ^ N * (addValue A B).cf.toNat := by
  rw [addValue_lo_toNat, addValue_cf, carryOut_toNat, Nat.mod_add_div]

/-- Adding the complement of B plus 1 is subtracting B modulo 2^N (45_sub.md R172). -/
theorem subRef_eq_subValue : subRef A B = subValue A B := by
  have hB := B.isLt
  refine triple_ext (BitVec.eq_of_toNat_eq ?_) rfl rfl
  simp only [subRef, addValue_lo_toNat, subValue_lo_toNat, bitNot_lo_toNat]
  rw [show (1 : BitVec N).toNat = 1 % 2 ^ N from rfl, Nat.add_mod_mod, ← Nat.add_assoc, Nat.add_mod_mod]
  congr 1
  omega

end OneWidth

variable {h : Nat} (A B : BitVec (h + h))

/-- The exact sum, limb by limb: the low limbs' carry has the weight of the high limbs. -/
theorem add_toNat_eq_limbs : A.toNat + B.toNat =
    2 ^ h * ((hiLimb A).toNat + (hiLimb B).toNat + (carryOut (loLimb A) (loLimb B)).toNat) +
      (addValue (loLimb A) (loLimb B)).lo.toNat := by
  have hLow := addValue_sum (loLimb A) (loLimb B)
  rw [addValue_cf] at hLow
  rw [toNat_eq_limbs A, toNat_eq_limbs B]
  linarith

/-- The whole sum carries where the high limbs' sum with the carry into it does. -/
theorem two_pow_le_add_iff_limbs : 2 ^ (h + h) ≤ A.toNat + B.toNat ↔
    2 ^ h ≤ (hiLimb A).toNat + (hiLimb B).toNat + (carryOut (loLimb A) (loLimb B)).toNat := by
  rw [Nat.pow_add, ← Nat.le_div_iff_mul_le (Nat.two_pow_pos h), add_toNat_eq_limbs,
    Nat.mul_add_div (Nat.two_pow_pos h), Nat.div_eq_of_lt (BitVec.isLt _), Nat.add_zero]

theorem addLimbs_lo : (addLimbs A B).lo = (addValue A B).lo := by
  apply BitVec.eq_of_toNat_eq
  have hLow := (addValue (loLimb A) (loLimb B)).lo.isLt
  simp only [addLimbs]
  rw [joinLimbs_toNat, addValue_lo_toNat, addValue_lo_toNat (hiLimb A), addValue_cf, bitValue_carryOut_toNat,
    Nat.mod_add_mod, addValue_lo_toNat A, add_toNat_eq_limbs, Nat.pow_add, Nat.mod_mul, Nat.mul_add_mod,
    Nat.mod_eq_of_lt hLow, Nat.mul_add_div (Nat.two_pow_pos h), Nat.div_eq_of_lt hLow, Nat.add_zero, Nat.add_comm]

/-- Of the two carries of the high limbs the second can come only where the first does not. -/
theorem addLimbs_cf : (addLimbs A B).cf = (addValue A B).cf := by
  simp only [addLimbs, addValue_cf]
  rw [Bool.eq_iff_iff, Bool.or_eq_true, carryOut_eq_true, carryOut_eq_true, carryOut_eq_true,
    two_pow_le_add_iff_limbs, bitValue_carryOut_toNat, addValue_lo_toNat]
  by_cases hCarry : 2 ^ h ≤ (hiLimb A).toNat + (hiLimb B).toNat
  · simp only [hCarry, true_or, true_iff]
    omega
  · rw [Nat.mod_eq_of_lt (not_le.mp hCarry)]
    simp only [hCarry, false_or]

theorem addLimbs_eq_addValue : addLimbs A B = addValue A B :=
  triple_ext (addLimbs_lo A B) rfl (addLimbs_cf A B)

theorem subLimbs_eq_subValue : subLimbs A B = subValue A B := by
  rw [← subRef_eq_subValue, subLimbs, subRef, notLimbs_eq_bitNot, addLimbs_eq_addValue, addLimbs_eq_addValue,
    cmpLimbs_eq_cmpValue]

end Sys2Proof.Machine
end

section
/-! SUPPORT. MUL from two limbs (46_mul.md R182). -/

namespace Sys2Proof.Machine

section OneWidth

variable {N : Nat} {A B : BitVec N}

/-- MUL keeps the exact product, in its two halves (46_mul.md R180). -/
theorem mulValue_product (A B : BitVec N) :
    A.toNat * B.toNat = (mulValue A B).lo.toNat + 2 ^ N * (mulValue A B).hi.toNat := by
  rw [mulValue_lo_toNat, mulValue_hi_toNat, Nat.mod_add_div]

/-- The two halves are determined by the exact product. -/
theorem eq_mulValue_of_product {t : Triple N} (hProduct : A.toNat * B.toNat = t.lo.toNat + 2 ^ N * t.hi.toNat)
    (hCf : t.cf = false) : t = mulValue A B := by
  refine triple_ext (BitVec.eq_of_toNat_eq ?_) (BitVec.eq_of_toNat_eq ?_) hCf
  · rw [mulValue_lo_toNat, hProduct, Nat.add_mul_mod_self_left, Nat.mod_eq_of_lt t.lo.isLt]
  · rw [mulValue_hi_toNat, hProduct, Nat.add_mul_div_left _ _ (Nat.two_pow_pos N), Nat.div_eq_of_lt t.lo.isLt,
      Nat.zero_add]

/-- Adding a count of carries that fits the width. -/
theorem addValue_ofNat_sum (A : BitVec N) {c : Nat} (hc : c < 2 ^ N) :
    A.toNat + c = (addValue A (BitVec.ofNat N c)).lo.toNat + 2 ^ N * (addValue A (BitVec.ofNat N c)).cf.toNat := by
  rw [← addValue_sum, BitVec.toNat_ofNat, Nat.mod_eq_of_lt hc]

end OneWidth

variable {h : Nat} (A B : BitVec (h + h))

/-- The schoolbook sum of the four partial products. From limbs of two bits on the counts of carries fit a limb, so every
addition is exact but the last, and the last does not carry because the product is below 2^(4h). -/
theorem mulLimbs_eq_mulValue_of_two_le (hTwo : 2 ≤ h) : mulLimbs mulValue A B = mulValue A B := by
  have hFour : 2 ^ 2 ≤ 2 ^ h := Nat.pow_le_pow_right (by decide) hTwo
  unfold mulLimbs
  extract_lets p0 p1 p2 p3 r0 sa sb c1 sc sd se c2 sf
  have h0 : _ = p0.lo.toNat + 2 ^ h * p0.hi.toNat := mulValue_product (loLimb A) (loLimb B)
  have h1 : _ = p1.lo.toNat + 2 ^ h * p1.hi.toNat := mulValue_product (loLimb A) (hiLimb B)
  have h2 : _ = p2.lo.toNat + 2 ^ h * p2.hi.toNat := mulValue_product (hiLimb A) (loLimb B)
  have h3 : _ = p3.lo.toNat + 2 ^ h * p3.hi.toNat := mulValue_product (hiLimb A) (hiLimb B)
  have ha : _ = sa.lo.toNat + 2 ^ h * sa.cf.toNat := addValue_sum p0.hi p1.lo
  have hb : _ = sb.lo.toNat + 2 ^ h * sb.cf.toNat := addValue_sum sa.lo p2.lo
  have hc : _ = sc.lo.toNat + 2 ^ h * sc.cf.toNat := addValue_sum p1.hi p2.hi
  have hd : _ = sd.lo.toNat + 2 ^ h * sd.cf.toNat := addValue_sum sc.lo p3.lo
  have hc1 : c1 = sa.cf.toNat + sb.cf.toNat := rfl
  have hc1_le : c1 ≤ 2 := Nat.add_le_add sa.cf.toNat_le sb.cf.toNat_le
  have he : _ = se.lo.toNat + 2 ^ h * se.cf.toNat := addValue_ofNat_sum sd.lo (by omega)
  have hc2 : c2 = sc.cf.toNat + sd.cf.toNat + se.cf.toNat := rfl
  have hc2_le : c2 ≤ 3 := Nat.add_le_add (Nat.add_le_add sc.cf.toNat_le sd.cf.toNat_le) se.cf.toNat_le
  have hf : _ = sf.lo.toNat + 2 ^ h * sf.cf.toNat := addValue_ofNat_sum p3.hi (by omega)
  have hProduct : A.toNat * B.toNat = 2 ^ h * sb.lo.toNat + p0.lo.toNat +
      2 ^ (h + h) * (2 ^ h * sf.lo.toNat + se.lo.toNat) + 2 ^ (h + h) * 2 ^ (h + h) * sf.cf.toNat := by
    rw [toNat_eq_limbs A, toNat_eq_limbs B, Nat.pow_add]
    zify at *
    linear_combination h0 + 2 ^ h * (h1 + h2 + ha + hb) + 2 ^ h * 2 ^ h * (h3 + hc + hd + he - hc1) +
      2 ^ h * 2 ^ h * 2 ^ h * (hf - hc2)
  have hBound : A.toNat * B.toNat < 2 ^ (h + h) * 2 ^ (h + h) := Nat.mul_lt_mul'' A.isLt B.isLt
  have hNoCarry : sf.cf.toNat = 0 := by
    by_contra hCarry
    have := Nat.le_mul_of_pos_right (2 ^ (h + h) * 2 ^ (h + h)) (Nat.pos_of_ne_zero hCarry)
    omega
  refine eq_mulValue_of_product ?_ rfl
  rw [joinLimbs_toNat, joinLimbs_toNat, hProduct, hNoCarry, Nat.mul_zero, Nat.add_zero]

/-- With limbs of one bit a count of two carries would not fit a limb; the sixteen products show that none comes. -/
theorem mulLimbs_eq_mulValue : mulLimbs mulValue A B = mulValue A B := by
  match h, A, B with
  | 0, A, B => revert A B; decide
  | 1, A, B => revert A B; decide
  | _ + 2, A, B => exact mulLimbs_eq_mulValue_of_two_le A B (by omega)

end Sys2Proof.Machine
end

section
/-! SUPPORT. Restoring long division (47_div.md R192, R194), over any primitives that act on numbers as R192 says: one
lemma for each loop, then division at one width and from two limbs. -/

namespace Sys2Proof.Machine

variable {N : Nat}

/-- What restoring division asks of its primitives (47_div.md R192): the unsigned order, and subtracting, doubling, halving
and setting the low bit as on numbers, each where it is used without leaving the width. -/
structure DivisionPrimitives (le : BitVec N → BitVec N → Bool) (minus : BitVec N → BitVec N → BitVec N)
    (double halve setLow : BitVec N → BitVec N) : Prop where
  le_eq_true_iff : ∀ x y, le x y = true ↔ x.toNat ≤ y.toNat
  minus_toNat : ∀ r d, d.toNat ≤ r.toNat → (minus r d).toNat = r.toNat - d.toNat
  double_toNat : ∀ v, 2 * v.toNat < 2 ^ N → (double v).toNat = 2 * v.toNat
  halve_toNat : ∀ v, (halve v).toNat = v.toNat / 2
  setLow_toNat : ∀ v, v.toNat % 2 = 0 → v.toNat + 1 < 2 ^ N → (setLow v).toNat = v.toNat + 1

variable {le : BitVec N → BitVec N → Bool} {minus : BitVec N → BitVec N → BitVec N}
  {double halve setLow : BitVec N → BitVec N}

/-- Normalisation leaves B times 2^s, more than half of A. It does not run out of its N doublings: after them the divisor
would not fit the width. -/
theorem normalise_spec (hPrim : DivisionPrimitives le minus double halve setLow) (A B : BitVec N) (hB : B ≠ 0)
    (fuel : Nat) (d : BitVec N) (s : Nat) (hFuel : fuel + s = N) (hd : d.toNat = B.toNat * 2 ^ s) :
    (normalise le double A fuel d s).1.toNat = B.toNat * 2 ^ (normalise le double A fuel d s).2 ∧
      A.toNat < 2 * (normalise le double A fuel d s).1.toNat := by
  induction fuel generalizing d s with
  | zero =>
    obtain rfl : s = N := by omega
    have hPos : 1 ≤ B.toNat := Nat.one_le_iff_ne_zero.mpr (by simpa [← BitVec.toNat_inj] using hB)
    have := Nat.le_mul_of_pos_left (2 ^ s) hPos
    have := d.isLt
    omega
  | succ fuel ih =>
    rw [normalise]
    split
    next hStep =>
      rw [Bool.and_eq_true, Bool.not_eq_true', BitVec.msb_eq_false_iff_two_mul_lt] at hStep
      refine ih (double d) (s + 1) (by omega) ?_
      rw [hPrim.double_toNat d hStep.1, hd, Nat.pow_succ]
      ring
    next hStop =>
      refine ⟨hd, ?_⟩
      by_contra hNotLt
      have hLe : 2 * d.toNat ≤ A.toNat := not_lt.mp hNotLt
      have hFits : 2 * d.toNat < 2 ^ N := hLe.trans_lt A.isLt
      refine hStop ?_
      rw [Bool.and_eq_true, Bool.not_eq_true', BitVec.msb_eq_false_iff_two_mul_lt, hPrim.le_eq_true_iff,
        hPrim.double_toNat d hFits]
      exact ⟨hFits, hLe⟩

/-- The restoring loop with k iterations to go keeps `q · B · 2^k + r`, the dividend, and `r < B · 2^k`. -/
theorem restore_spec (hPrim : DivisionPrimitives le minus double halve setLow) (B : BitVec N) (k : Nat)
    (d q r : BitVec N) (hd : d.toNat = B.toNat * 2 ^ k / 2) (hr : r.toNat < B.toNat * 2 ^ k)
    (hFits : q.toNat * (B.toNat * 2 ^ k) + r.toNat < 2 ^ N) :
    let qr := restore le minus double halve setLow k d q r
    qr.1.toNat * B.toNat + qr.2.toNat = q.toNat * (B.toNat * 2 ^ k) + r.toNat ∧ qr.2.toNat < B.toNat := by
  induction k generalizing d q r with
  | zero => simpa [restore] using hr
  | succ k ih =>
    have hHalf : B.toNat * 2 ^ (k + 1) = 2 * (B.toNat * 2 ^ k) := by ring
    rw [hHalf] at hd hr hFits ⊢
    rw [Nat.mul_div_cancel_left _ (by decide)] at hd
    rw [← hd] at hr hFits ih ⊢
    have hPos := Nat.le_mul_of_pos_right q.toNat (show 0 < d.toNat by omega)
    have hHalve := hPrim.halve_toNat d
    have hDouble := hPrim.double_toNat q (by linarith)
    simp only [restore]
    split
    next hLe =>
      rw [hPrim.le_eq_true_iff] at hLe
      have hMinus := hPrim.minus_toNat r d hLe
      have hSet : (setLow (double q)).toNat = 2 * q.toNat + 1 := by
        rw [hPrim.setLow_toNat _ (by omega) (by rw [hDouble]; linarith), hDouble]
      have hKeep : (setLow (double q)).toNat * d.toNat + (minus r d).toNat = q.toNat * (2 * d.toNat) + r.toNat := by
        rw [hSet, hMinus]
        have : (2 * q.toNat + 1) * d.toNat = q.toNat * (2 * d.toNat) + d.toNat := by ring
        omega
      rw [← hKeep]
      exact ih _ _ _ hHalve (by omega) (by omega)
    next hNotLe =>
      rw [hPrim.le_eq_true_iff] at hNotLe
      have hKeep : (double q).toNat * d.toNat + r.toNat = q.toNat * (2 * d.toNat) + r.toNat := by
        rw [hDouble]
        ring
      rw [← hKeep]
      exact ih _ _ _ hHalve (by omega) (by omega)

/-- Quotient and remainder are determined by their sum and the bound on the remainder. -/
theorem eq_divmodValue_of_sum {A B : BitVec N} {t : Triple N} (hSum : t.lo.toNat * B.toNat + t.hi.toNat = A.toNat)
    (hLt : t.hi.toNat < B.toNat) (hCf : t.cf = false) : t = divmodValue A B := by
  obtain ⟨hQuot, hRem⟩ := (Nat.div_mod_unique (d := t.lo.toNat) (Nat.zero_lt_of_lt hLt)).mpr ⟨by linarith, hLt⟩
  refine triple_ext (BitVec.eq_of_toNat_eq ?_) (BitVec.eq_of_toNat_eq ?_) hCf
  · rw [divmodValue_lo_toNat, hQuot]
  · rw [divmodValue_hi_toNat, hRem]

theorem longDivision_eq_divmodValue (hPrim : DivisionPrimitives le minus double halve setLow) (A B : BitVec N)
    (hB : B ≠ 0) : longDivision le minus double halve setLow A B = divmodValue A B := by
  obtain ⟨hd, hA⟩ := normalise_spec hPrim A B hB N B 0 (by simp) (by simp)
  have hTwice (s : Nat) : B.toNat * 2 ^ (s + 1) = 2 * (B.toNat * 2 ^ s) := by ring
  obtain ⟨hSum, hLt⟩ := restore_spec hPrim B
    ((normalise le double A N B 0).2 + 1) (normalise le double A N B 0).1 0 A (by rw [hTwice, hd]; omega)
    (by rw [hTwice, ← hd]; exact hA) (by simp [A.isLt])
  exact eq_divmodValue_of_sum (hSum.trans (by simp)) hLt rfl

theorem shlValue_lo_toNat (v : BitVec N) (d : Distance) :
    (shlValue v d).lo.toNat = v.toNat * 2 ^ d.toNat % 2 ^ N := by
  rw [shlValue, plainResult_lo]
  split
  next hBig => exact (Nat.mod_eq_zero_of_dvd (Dvd.dvd.mul_left (Nat.pow_dvd_pow 2 hBig) _)).symm
  next => rw [BitVec.toNat_shiftLeft, Nat.shiftLeft_eq]

theorem shrValue_lo_toNat (v : BitVec N) (d : Distance) : (shrValue v d).lo.toNat = v.toNat / 2 ^ d.toNat := by
  rw [shrValue, plainResult_lo]
  split
  next hBig =>
    have hLt : v.toNat < 2 ^ d.toNat := v.isLt.trans_le (Nat.pow_le_pow_right (by decide) hBig)
    exact (Nat.div_eq_of_lt hLt).symm
  next => rw [BitVec.toNat_ushiftRight, Nat.shiftRight_eq_div_pow]

theorem subValue_lo_toNat_of_le {A B : BitVec N} (hLe : B.toNat ≤ A.toNat) :
    (subValue A B).lo.toNat = A.toNat - B.toNat := by
  have hA := A.isLt
  rw [subValue_lo_toNat, show A.toNat + 2 ^ N - B.toNat = A.toNat - B.toNat + 2 ^ N by omega, Nat.add_mod_right,
    Nat.mod_eq_of_lt (by omega)]

/-- OR with 1 adds 1 to an even number. -/
theorem bitOr_one_lo_toNat {v : BitVec N} (hEven : v.toNat % 2 = 0) (hFits : v.toNat + 1 < 2 ^ N) :
    (bitOr v 1).lo.toNat = v.toNat + 1 := by
  have hOr := Nat.two_pow_add_eq_or_of_lt (i := 1) (b := 1) (by decide) (v.toNat / 2)
  rw [Nat.pow_one, Nat.mul_div_cancel' (Nat.dvd_of_mod_eq_zero hEven)] at hOr
  rw [bitOr, plainResult_lo, BitVec.toNat_or, show (1 : BitVec N).toNat = 1 % 2 ^ N from rfl,
    Nat.mod_eq_of_lt (by omega), hOr]

/-- The primitives of one width (47_div.md R192). -/
theorem divisionPrimitives_ref : DivisionPrimitives (N := N) leByCmp (fun r d => (subValue r d).lo)
    (fun v => (shlValue v 1).lo) (fun v => (shrValue v 1).lo) (fun q => (bitOr q 1).lo) where
  le_eq_true_iff x y := by simp [leByCmp, borrow]
  minus_toNat _ _ := subValue_lo_toNat_of_le
  double_toNat v hFits := by
    rw [shlValue_lo_toNat, show (1 : Distance).toNat = 1 from rfl, Nat.pow_one, Nat.mul_comm, Nat.mod_eq_of_lt hFits]
  halve_toNat v := shrValue_lo_toNat v 1
  setLow_toNat _ := bitOr_one_lo_toNat

theorem divmodRef_eq_divmodValue (A B : BitVec N) (hB : B ≠ 0) : divmodRef A B = divmodValue A B :=
  longDivision_eq_divmodValue divisionPrimitives_ref A B hB

/-- The primitives from two limbs are those of the whole width (47_div.md R194). -/
theorem divmodLimbs_eq_divmodValue {h : Nat} (A B : BitVec (h + h)) (hB : B ≠ 0) :
    divmodLimbs A B = divmodValue A B := by
  rw [← divmodRef_eq_divmodValue A B hB]
  simp only [divmodLimbs, cmpLimbs_eq_cmpValue, subLimbs_eq_subValue, shlLimbs_eq_shlValue, shrLimbs_eq_shrValue,
    limbwise_bitOr]
  rfl

end Sys2Proof.Machine
end

section
/-! PROOF. The composition controller is not observable (40_engine.md R111, R112): its limb forms give the operations'
own outcomes. -/

namespace Sys2Proof.Machine

variable {h : Nat} (a b : Bus)

/-- The outcome of an operation composed from two limbs, over a half-width multiplier (40_engine.md R111). -/
def limbOutcome (mulH : BitVec h → BitVec h → Triple h) (A B : BitVec (h + h)) (d : Distance) : Op → CmdOutcome
  | .cmp => okOf (cmpLimbs A B)
  | .not => okOf (notLimbs A)
  | .and => okOf (limbwise bitAnd A B)
  | .or => okOf (limbwise bitOr A B)
  | .xor => okOf (limbwise bitXor A B)
  | .shl => okOf (shlLimbs A d)
  | .shr => okOf (shrLimbs A d)
  | .add => okOf (addLimbs A B)
  | .sub => okOf (subLimbs A B)
  | .mul => okOf (mulLimbs mulH A B)
  | .divmod => divmodByLimbs A B

theorem divmodByLimbs_eq_divmodOutcome :
    divmodByLimbs (operand (h + h) a) (operand (h + h) b) = divmodOutcome (h + h) a b := by
  unfold divmodByLimbs divmodOutcome
  split
  next => rfl
  next hB => rw [divmodLimbs_eq_divmodValue _ _ hB]

/-- Each composition gives the value of its operation at the whole width. -/
theorem limbOutcome_mulValue (op : Op) :
    limbOutcome mulValue (operand (h + h) a) (operand (h + h) b) (distance b) op = opOutcome op (h + h) a b := by
  cases op with
  | cmp => exact congrArg okOf (cmpLimbs_eq_cmpValue _ _)
  | not => exact congrArg okOf (notLimbs_eq_bitNot _)
  | and => exact congrArg okOf (limbwise_bitAnd _ _)
  | or => exact congrArg okOf (limbwise_bitOr _ _)
  | xor => exact congrArg okOf (limbwise_bitXor _ _)
  | shl => exact congrArg okOf (shlLimbs_eq_shlValue _ _)
  | shr => exact congrArg okOf (shrLimbs_eq_shrValue _ _)
  | add => exact congrArg okOf (addLimbs_eq_addValue _ _)
  | sub => exact congrArg okOf (subLimbs_eq_subValue _ _)
  | mul => exact congrArg okOf (mulLimbs_eq_mulValue _ _)
  | divmod => exact divmodByLimbs_eq_divmodOutcome a b

/-- The partial products of the 128-bit product are composed, and are products all the same (46_mul.md R182). -/
theorem mul64ByLimbs_eq_mulValue : mul64ByLimbs = mulValue :=
  funext₂ fun A B => mulLimbs_eq_mulValue (h := 32) A B

theorem composed_w64 (op : Op) : composed (instrOf op .w64) a b =
    some (limbOutcome (h := 32) mulValue (operand 64 a) (operand 64 b) (distance b) op) := by
  cases op <;> rfl

theorem composed_w128 (op : Op) : composed (instrOf op .w128) a b =
    some (limbOutcome (h := 64) mul64ByLimbs (operand 128 a) (operand 128 b) (distance b) op) := by
  cases op <;> rfl

/-- The controller composes exactly the 64- and 128-bit commands, each to the outcome of its operation. -/
theorem composed_instrOf (op : Op) (n : Width) : composed (instrOf op n) a b =
    if n = .w64 ∨ n = .w128 then some (opOutcome op n.bits a b) else none := by
  cases n with
  | w8 | w16 | w32 => cases op <;> rfl
  | w64 =>
    rw [composed_w64, if_pos (.inl rfl)]
    exact congrArg some (limbOutcome_mulValue (h := 32) a b op)
  | w128 =>
    rw [composed_w128, mul64ByLimbs_eq_mulValue, if_pos (.inr rfl)]
    exact congrArg some (limbOutcome_mulValue (h := 64) a b op)

/-- Settles O49: a composed command gives the outcome of its operation, and so does `Exec` of its word. -/
theorem controllerIsNotObservable : Obligations.ControllerIsNotObservable := by
  unfold Obligations.ControllerIsNotObservable
  intro i a b
  rw [← instrOf_op_width i, composed_instrOf, instrOf_op_width, commandOutcome_encode]
  split
  next hWide => simp [hWide]
  next hNarrow => simp [hNarrow]

end Sys2Proof.Machine
end

section
/-! SUPPORT. The rows of the word table by operation and width, and what a command that completes with `Ok` leaves
(30_encoding.md R88, 40_engine.md R104, R105). -/

namespace Sys2Proof.Machine

open Sys2Proof.Claims (Form okNext)

/-- The row of an operation at a width (30_encoding.md R88). -/
def formOf (op : Op) (n : Width) : Form := ⟨wordOf op n, instrOf op n, n.bits⟩

/-- The five rows of an operation, in the order of the table. -/
def formsOf (op : Op) : List Form := [Width.w8, .w16, .w32, .w64, .w128].map (formOf op)

theorem eq_formOf_of_mem_formsOf {op : Op} {f : Form} (h : f ∈ formsOf op) : ∃ n, f = formOf op n := by
  obtain ⟨n, -, rfl⟩ := List.mem_map.mp h
  exact ⟨n, rfl⟩

theorem exec_instrOf (op : Op) (n : Width) (s : State) :
    exec (instrOf op n) s = .next (s.complete (opOutcome op n.bits s.aL s.bL)) := by
  rw [exec_eq_finish, encode_instrOf, commandOutcome_wordOf, finish]

/-- A command that completes with a value writes its numbers and changes nothing else. -/
theorem State.complete_okOf {N : Nat} (s : State) (t : Triple N) :
    s.complete (okOf t) = okNext s t.lo.toNat t.hi.toNat t.cf := by
  rw [okOf, zext128_eq_ofNat, zext128_eq_ofNat]
  rfl

end Sys2Proof.Machine
end

section
/-! PROOF. CMP (41_compare.md R130 to R133): what the five commands write, its two other forms, and the order that the
three codes stand for. -/

namespace Sys2Proof.Machine

open Sys2Proof.Claims (cmpForms numA numB okNext)

theorem cmpForms_eq_formsOf : cmpForms = formsOf .cmp := rfl

/-- CMP writes its code and its borrow, and 0 in RES_HI. -/
theorem complete_cmpOutcome {N : Nat} (hN : 0 < N) (s : State) : s.complete (cmpOutcome N s.aL s.bL) =
    okNext s (if numA N s = numB N s then 0 else if numB N s < numA N s then 1 else 2 ^ N - 1) 0
      (decide (numA N s < numB N s)) := by
  rw [cmpOutcome, State.complete_okOf, cmpValue_lo_toNat _ _ hN, cmpValue_hi, cmpValue_cf, borrow, operand_toNat,
    operand_toNat]
  rfl

/-- Settles O12: each form decodes to CMP at its width, and completes with the code and the borrow. -/
theorem cmpWritesCodeAndBorrow : Obligations.CmpWritesCodeAndBorrow := by
  unfold Obligations.CmpWritesCodeAndBorrow
  rw [cmpForms_eq_formsOf]
  intro f hf
  obtain ⟨n, rfl⟩ := eq_formOf_of_mem_formsOf hf
  have hBits : 0 < n.bits := Nat.lt_of_lt_of_le (by decide) n.eight_le_bits
  refine ⟨decode_wordOf .cmp n, fun s => ?_⟩
  exact (exec_instrOf .cmp n s).trans (congrArg _ (complete_cmpOutcome hBits s))

/-- Settles O38, by the cases of the two sign bits. -/
theorem compareOfOneWordIsUnsigned : Obligations.CompareOfOneWordIsUnsigned := by
  unfold Obligations.CompareOfOneWordIsUnsigned
  intro M A B
  exact cmpWord_eq_sign A B

/-- Settles O39: the limbs give the sign of the difference of the whole operands. -/
theorem compareFromLimbsIsCompare : Obligations.CompareFromLimbsIsCompare := by
  unfold Obligations.CompareFromLimbsIsCompare
  intro h A B
  exact cmpLimbs_eq_cmpValue A B

/-- RES_LO of CMP is 2^N - 1 exactly where the first operand is less, since 0 and 1 are not 2^N - 1. -/
theorem zext128_cmpValue_lo_eq_max_iff {N : Nat} (A B : BitVec N) (hN : 2 ≤ N) (hBus : N ≤ 128) :
    (zext128 (cmpValue A B).lo).toNat = 2 ^ N - 1 ↔ A.toNat < B.toNat := by
  have hFour : 2 ^ 2 ≤ 2 ^ N := Nat.pow_le_pow_right (by decide) hN
  rw [zext128_toNat _ hBus, cmpValue_lo_toNat A B (by omega)]
  split
  · omega
  · split <;> omega

/-- CMP's outcome: its code, 0 in RES_HI, and the borrow. -/
theorem commandOutcome_cmp (n : Width) (a b : Bus) : commandOutcome (wordOf .cmp n) a b =
    .ok (zext128 (cmpValue (operand n.bits a) (operand n.bits b)).lo) 0
      (borrow (operand n.bits a) (operand n.bits b)) := by
  rw [commandOutcome_wordOf, opOutcome, cmpOutcome, okOf, cmpValue_hi, cmpValue_cf]
  simp [zext128]

/-- Settles O55: each code stands for one of `<`, `=` and `>`, and `A > B` is `B < A`. -/
theorem comparisonIsATotalOrder : Obligations.ComparisonIsATotalOrder := by
  unfold Obligations.ComparisonIsATotalOrder
  intro n a b
  have hTwo : 2 ≤ n.bits := Nat.le_trans (by decide) n.eight_le_bits
  have hLess := zext128_cmpValue_lo_eq_max_iff (operand n.bits a) (operand n.bits b) hTwo n.bits_le_bus
  have hEqual := zext128_cmpValue_lo_eq_zero_iff (operand n.bits a) (operand n.bits b) (by omega) n.bits_le_bus
  have hGreater := zext128_cmpValue_lo_eq_one_iff (operand n.bits a) (operand n.bits b) hTwo n.bits_le_bus
  have hSwapped := zext128_cmpValue_lo_eq_max_iff (operand n.bits b) (operand n.bits a) hTwo n.bits_le_bus
  rw [operand_toNat, operand_toNat] at hLess hEqual hGreater hSwapped
  exact ⟨_, _, _, _, commandOutcome_cmp n a b, commandOutcome_cmp n b a, hLess, hEqual, hGreater,
    hGreater.trans hSwapped.symm⟩

end Sys2Proof.Machine
end

section
/-! SUPPORT. The rows of an operation whose outcome at every width is one and the same effect on the state, and the
effect of a command with a plain result (40_engine.md R101, R104, R105). -/

namespace Sys2Proof.Machine

open Sys2Proof.Claims (okNext)

/-- If every completion of an operation is `next` at its width, each row of the table decodes to a command that does
`next` at the row's width. -/
theorem decode_exec_of_mem_formsOf (op : Op) {next : Nat → State → State}
    (hNext : ∀ N s, s.complete (opOutcome op N s.aL s.bL) = next N s) :
    ∀ f ∈ formsOf op, decode f.word = .ok f.instr ∧ ∀ s, exec f.instr s = .next (next f.bits s) := by
  intro f hf
  obtain ⟨n, rfl⟩ := eq_formOf_of_mem_formsOf hf
  exact ⟨decode_wordOf op n, fun s => (exec_instrOf op n s).trans (congrArg _ (hNext n.bits s))⟩

/-- A plain result goes to RES_LO, and RES_HI and CF are 0. -/
theorem State.complete_okOf_plainResult {N : Nat} (s : State) (v : BitVec N) :
    s.complete (okOf (plainResult v)) = okNext s v.toNat 0 false := by
  rw [State.complete_okOf, plainResult_lo, plainResult_hi, plainResult_cf, BitVec.ofNat_eq_ofNat, BitVec.toNat_zero]

end Sys2Proof.Machine
end

section
/-! PROOF. NOT, AND, OR and XOR (42_bitwise.md R140 to R144): what the twenty commands write, and that they may be
computed on two limbs. -/

namespace Sys2Proof.Machine

open Sys2Proof.Claims (notForms andForms orForms xorForms numA numB okNext)

variable (N : Nat) (s : State)

theorem complete_notOutcome : s.complete (notOutcome N s.aL s.bL) = okNext s (2 ^ N - 1 - numA N s) 0 false := by
  rw [notOutcome, bitNot, State.complete_okOf_plainResult, BitVec.toNat_not, operand_toNat, numA]

theorem complete_andOutcome : s.complete (andOutcome N s.aL s.bL) = okNext s (numA N s &&& numB N s) 0 false := by
  rw [andOutcome, bitAnd, State.complete_okOf_plainResult, BitVec.toNat_and, operand_toNat, operand_toNat, numA, numB]

theorem complete_orOutcome : s.complete (orOutcome N s.aL s.bL) = okNext s (numA N s ||| numB N s) 0 false := by
  rw [orOutcome, bitOr, State.complete_okOf_plainResult, BitVec.toNat_or, operand_toNat, operand_toNat, numA, numB]

theorem complete_xorOutcome : s.complete (xorOutcome N s.aL s.bL) = okNext s (numA N s ^^^ numB N s) 0 false := by
  rw [xorOutcome, bitXor, State.complete_okOf_plainResult, BitVec.toNat_xor, operand_toNat, operand_toNat, numA, numB]

theorem notForms_eq_formsOf : notForms = formsOf .not := rfl

theorem andForms_eq_formsOf : andForms = formsOf .and := rfl

theorem orForms_eq_formsOf : orForms = formsOf .or := rfl

theorem xorForms_eq_formsOf : xorForms = formsOf .xor := rfl

/-- Settles O13: NOT completes with the complement at every width. -/
theorem notWritesComplement : Obligations.NotWritesComplement := by
  unfold Obligations.NotWritesComplement
  rw [notForms_eq_formsOf]
  exact decode_exec_of_mem_formsOf .not complete_notOutcome

/-- Settles O14: AND completes with the bitwise and of the operands at every width. -/
theorem andWritesBitwiseAnd : Obligations.AndWritesBitwiseAnd := by
  unfold Obligations.AndWritesBitwiseAnd
  rw [andForms_eq_formsOf]
  exact decode_exec_of_mem_formsOf .and complete_andOutcome

/-- Settles O15: OR completes with the bitwise or of the operands at every width. -/
theorem orWritesBitwiseOr : Obligations.OrWritesBitwiseOr := by
  unfold Obligations.OrWritesBitwiseOr
  rw [orForms_eq_formsOf]
  exact decode_exec_of_mem_formsOf .or complete_orOutcome

/-- Settles O16: XOR completes with the bitwise exclusive or of the operands at every width. -/
theorem xorWritesBitwiseXor : Obligations.XorWritesBitwiseXor := by
  unfold Obligations.XorWritesBitwiseXor
  rw [xorForms_eq_formsOf]
  exact decode_exec_of_mem_formsOf .xor complete_xorOutcome

/-- Settles O40: each operation acts bit by bit, so it distributes over the two limbs. -/
theorem bitwiseFromLimbsIsBitwise : Obligations.BitwiseFromLimbsIsBitwise := by
  unfold Obligations.BitwiseFromLimbsIsBitwise
  intro h A B
  exact ⟨notLimbs_eq_bitNot A, limbwise_bitAnd A B, limbwise_bitOr A B, limbwise_bitXor A B⟩

end Sys2Proof.Machine
end

section
/-! SUPPORT. The barrel shifter (43_shift.md R155): its stages add up to one shift by the distance, for any shift of which
two in a row are one by the sum. -/

namespace Sys2Proof.Machine

/-- The levels stop short of the fuel only where they suffice. -/
theorem le_two_pow_levelsFor_or_eq_fuel (N fuel : Nat) : N ≤ 2 ^ levelsFor N fuel ∨ levelsFor N fuel = fuel := by
  induction fuel with
  | zero => exact .inr rfl
  | succ fuel ih =>
    rw [levelsFor]
    split_ifs with hEnough
    · exact .inl hEnough
    · exact .inr (congrArg (· + 1) (ih.resolve_left hEnough))

theorem le_two_pow_levelsFor (N : Nat) : N ≤ 2 ^ levelsFor N N := by
  obtain hEnough | hFuel := le_two_pow_levelsFor_or_eq_fuel N N
  · exact hEnough
  · rw [hFuel]
    exact Nat.lt_two_pow_self.le

variable {N : Nat} {shift : BitVec N → Nat → BitVec N}

/-- The first `n` stages shift by the low `n` bits of the distance. -/
theorem foldl_barrelStage (hZero : ∀ v, shift v 0 = v) (hAdd : ∀ v m n, shift v (m + n) = shift (shift v m) n)
    (A : BitVec N) (d : Distance) (n : Nat) :
    (List.range n).foldl (barrelStage shift d) A = shift A (d.toNat % 2 ^ n) := by
  induction n with
  | zero => simp [Nat.mod_one, hZero]
  | succ n ih =>
    rw [List.range_succ, List.foldl_append, ih, Nat.mod_pow_succ, ← Nat.toNat_testBit, BitVec.testBit_toNat, hAdd]
    cases hBit : d.getLsbD n with
    | false => simp [barrelStage, hBit, hZero]
    | true => simp [barrelStage, hBit]

/-- A distance that passes the range test has no bit beyond the stages. -/
theorem barrelShift_eq_plainResult (hZero : ∀ v, shift v 0 = v)
    (hAdd : ∀ v m n, shift v (m + n) = shift (shift v m) n) (A : BitVec N) (d : Distance) :
    barrelShift shift A d = plainResult (if N ≤ d.toNat then 0 else shift A d.toNat) := by
  refine congrArg plainResult ?_
  split_ifs with hBig
  · rfl
  · have hFits : d.toNat < 2 ^ levelsFor N N := (not_le.mp hBig).trans_le (le_two_pow_levelsFor N)
    rw [foldl_barrelStage hZero hAdd, Nat.mod_eq_of_lt hFits]

theorem barrelShl_eq_shlValue (A : BitVec N) (d : Distance) : barrelShl A d = shlValue A d :=
  barrelShift_eq_plainResult BitVec.shiftLeft_zero BitVec.shiftLeft_add A d

theorem barrelShr_eq_shrValue (A : BitVec N) (d : Distance) : barrelShr A d = shrValue A d :=
  barrelShift_eq_plainResult BitVec.ushiftRight_zero BitVec.shiftRight_add A d

end Sys2Proof.Machine
end

section
/-! PROOF. SHL and SHR (43_shift.md R150 to R155): what the ten commands write, and that they may be computed on two
limbs and by the barrel shifter. -/

namespace Sys2Proof.Machine

open Sys2Proof.Claims (shlForms shrForms numA numDist okNext)

variable (N : Nat) (s : State)

theorem complete_shlOutcome : s.complete (shlOutcome N s.aL s.bL) =
    okNext s (if N ≤ numDist s then 0 else numA N s * 2 ^ numDist s % 2 ^ N) 0 false := by
  rw [shlOutcome, shlValue, State.complete_okOf_plainResult, apply_ite BitVec.toNat, BitVec.toNat_shiftLeft,
    Nat.shiftLeft_eq, operand_toNat, distance_toNat, BitVec.ofNat_eq_ofNat, BitVec.toNat_zero, numA, numDist]

theorem complete_shrOutcome : s.complete (shrOutcome N s.aL s.bL) =
    okNext s (if N ≤ numDist s then 0 else numA N s / 2 ^ numDist s) 0 false := by
  rw [shrOutcome, shrValue, State.complete_okOf_plainResult, apply_ite BitVec.toNat, BitVec.toNat_ushiftRight,
    Nat.shiftRight_eq_div_pow, operand_toNat, distance_toNat, BitVec.ofNat_eq_ofNat, BitVec.toNat_zero, numA, numDist]

theorem shlForms_eq_formsOf : shlForms = formsOf .shl := rfl

theorem shrForms_eq_formsOf : shrForms = formsOf .shr := rfl

/-- Settles O17: SHL completes with the shifted operand, or with 0 from distance N on, at every width. -/
theorem shlWritesShiftedValue : Obligations.ShlWritesShiftedValue := by
  unfold Obligations.ShlWritesShiftedValue
  rw [shlForms_eq_formsOf]
  exact decode_exec_of_mem_formsOf .shl complete_shlOutcome

/-- Settles O18: SHR completes with the operand's quotient by 2^DIST, or with 0 from distance N on, at every width. -/
theorem shrWritesShiftedValue : Obligations.ShrWritesShiftedValue := by
  unfold Obligations.ShrWritesShiftedValue
  rw [shrForms_eq_formsOf]
  exact decode_exec_of_mem_formsOf .shr complete_shrOutcome

/-- Settles O41, by the cases of the distance: below, at and above the limb width. -/
theorem shiftsFromLimbsAreShifts : Obligations.ShiftsFromLimbsAreShifts := by
  unfold Obligations.ShiftsFromLimbsAreShifts
  intro h A d
  exact ⟨shlLimbs_eq_shlValue A d, shrLimbs_eq_shrValue A d⟩

/-- Settles O51: stage k shifts by 2^k where bit k of the distance is 1, which adds up to the distance. -/
theorem barrelShifterShifts : Obligations.BarrelShifterShifts := by
  unfold Obligations.BarrelShifterShifts
  intro N A d
  exact ⟨barrelShl_eq_shlValue A d, barrelShr_eq_shrValue A d⟩

end Sys2Proof.Machine
end

section
/-! SUPPORT. ADD by its carries (44_add.md R161, R163): the carry into each bit makes the sum bit by bit, and the carry out
of the top bit is CF. -/

namespace Sys2Proof.Machine

variable {N : Nat} (A B : BitVec N)

theorem addValue_lo_eq_add : (addValue A B).lo = A + B := by
  apply BitVec.eq_of_toNat_eq
  rw [addValue_lo_toNat, BitVec.toNat_add]

theorem carryOut_eq_carry : carryOut A B = BitVec.carry N A B false := by
  simp [carryOut, BitVec.carry]

theorem genProp_snd_xor_carry {i : Nat} (hi : i < N) :
    ((genProp A B i).2 ^^ BitVec.carry i A B false) = (addValue A B).lo.getLsbD i := by
  rw [addValue_lo_eq_add, BitVec.getLsbD_add hi, genProp, Bool.xor_assoc]

/-- The sum bit shows the carry into it, so the operands' bits and the sum's bit fix the carry out (44_add.md R161). -/
theorem atLeastTwo_eq_carryFromTopBits (a b c : Bool) :
    Bool.atLeastTwo a b c = carryFromTopBits a b (a ^^ (b ^^ c)) := by
  revert a b c
  decide

theorem carryOut_eq_carryFromTopBits (hN : 1 ≤ N) :
    carryOut A B = carryFromTopBits A.msb B.msb (addValue A B).lo.msb := by
  obtain ⟨n, rfl⟩ := Nat.exists_eq_add_of_le' hN
  rw [carryOut_eq_carry, BitVec.carry_succ, atLeastTwo_eq_carryFromTopBits, addValue_lo_eq_add, BitVec.msb_add,
    BitVec.msb_eq_getLsbD_last A, BitVec.msb_eq_getLsbD_last B, Nat.add_sub_cancel]

theorem carryFromTopBits_true_true (s : Bool) : carryFromTopBits true true s = true := rfl

/-- The prohibited formula lacks the carry of two top bits that are 1, and nothing else (44_add.md R164). -/
theorem prohibitedCarry_ne_carryFromTopBits_iff (a b s : Bool) :
    ((a ^^ b) && !s) ≠ carryFromTopBits a b s ↔ a = true ∧ b = true := by
  revert a b s
  decide

end Sys2Proof.Machine
end

section
/-! SUPPORT. The prefix adders (44_add.md R163). A group of bits acts on carries: from the carry into its lowest bit it
gives the carry out of its highest. The prefix operator composes these actions, whatever the tree. -/

namespace Sys2Proof.Machine

/-- The carry out of a group from the carry into it. -/
def groupCarry (x : GenProp) (cIn : Bool) : Bool := x.1 || (x.2 && cIn)

@[simp] theorem groupCarry_false (x : GenProp) : groupCarry x false = x.1 := by
  simp [groupCarry]

/-- Generate and propagate of one bit give a full adder's carry. -/
theorem groupCarry_and_xor (a b c : Bool) : groupCarry (a && b, a ^^ b) c = Bool.atLeastTwo a b c := by
  revert a b c
  decide

theorem groupCarry_prefixOp (x y : GenProp) (c : Bool) : groupCarry (prefixOp x y) c = groupCarry x (groupCarry y c) := by
  simp only [groupCarry, prefixOp, Bool.and_or_distrib_left, Bool.or_assoc, Bool.and_assoc]

theorem koggeStoneLevel_getD (span : Nat) {xs : List GenProp} {i : Nat} (hi : i < xs.length) :
    (koggeStoneLevel span xs).getD i (false, false) =
      if span ≤ i then prefixOp (xs.getD i (false, false)) (xs.getD (i - span) (false, false))
      else xs.getD i (false, false) := by
  simp [koggeStoneLevel, List.getD_eq_getElem?_getD, hi]

theorem ofBits_getLsbD (bit : Nat → Bool) {n i : Nat} (hi : i < n) : (ofBits bit n).getLsbD i = bit i := by
  induction n with
  | zero => exact absurd hi i.not_lt_zero
  | succ n ih =>
    rw [ofBits, BitVec.getLsbD_cons]
    split_ifs with hTop
    · rw [hTop]
    · exact ih (by omega)

variable {N : Nat} (A B : BitVec N)

theorem groupCarry_genProp (i : Nat) :
    groupCarry (genProp A B i) (BitVec.carry i A B false) = BitVec.carry (i + 1) A B false := by
  rw [BitVec.carry_succ, genProp, groupCarry_and_xor]

/-- Groups that generate the carries give the sum and the carry of ADD. -/
theorem addByGroups_eq_addValue {groups : Nat → GenProp}
    (hGroups : ∀ i < N, (groups i).1 = BitVec.carry (i + 1) A B false) : addByGroups groups A B = addValue A B := by
  have hCarry : ∀ i ≤ N, prefixCarry groups i = BitVec.carry i A B false
    | 0, _ => BitVec.carry_zero.symm
    | i + 1, hi => hGroups i hi
  refine triple_ext (BitVec.eq_of_getLsbD_eq fun i hi => ?_) rfl ?_
  · rw [addByGroups, ofBits_getLsbD _ hi, hCarry i hi.le, genProp_snd_xor_carry A B hi]
  · rw [addByGroups, hCarry N le_rfl, addValue_cf, carryOut_eq_carry]

theorem prefixGroup_fst (i : Nat) : (prefixGroup A B i).1 = BitVec.carry (i + 1) A B false := by
  induction i with
  | zero => rw [prefixGroup, ← groupCarry_false, ← groupCarry_genProp, BitVec.carry_zero]
  | succ i ih => rw [prefixGroup, ← groupCarry_false, groupCarry_prefixOp, groupCarry_false, ih, groupCarry_genProp]

theorem prefixAdd_eq_addValue : prefixAdd A B = addValue A B :=
  addByGroups_eq_addValue A B fun i _ => prefixGroup_fst A B i

/-- The invariant of the Kogge-Stone tree: the group at each position `i` spans the `span` bits from `i` down, or all of
them where there are fewer, since the carry into bit 0 is none. -/
def GroupsSpan (span : Nat) (xs : List GenProp) : Prop :=
  xs.length = N ∧ ∀ i < N,
    groupCarry (xs.getD i (false, false)) (BitVec.carry (i + 1 - span) A B false) = BitVec.carry (i + 1) A B false

theorem groupsSpan_one : GroupsSpan A B 1 ((List.range N).map (genProp A B)) := by
  refine ⟨by simp, fun i hi => ?_⟩
  rw [List.getD_eq_getElem _ _ (by simpa using hi), List.getElem_map, List.getElem_range, Nat.add_sub_cancel,
    groupCarry_genProp]

variable {A B}

/-- A level doubles the span: each group is joined by the one that ends where it begins. -/
theorem GroupsSpan.doubled {span : Nat} {xs : List GenProp} (h : GroupsSpan A B span xs) :
    GroupsSpan A B (2 * span) (koggeStoneLevel span xs) := by
  obtain ⟨hLength, hCarry⟩ := h
  refine ⟨by simp [koggeStoneLevel, hLength], fun i hi => ?_⟩
  rw [koggeStoneLevel_getD span (hi.trans_eq hLength.symm)]
  split_ifs with hSpan
  · have hLow := hCarry (i - span) (by omega)
    rw [show i - span + 1 - span = i + 1 - 2 * span by omega, show i - span + 1 = i + 1 - span by omega] at hLow
    rw [groupCarry_prefixOp, hLow, hCarry i hi]
  · rw [show i + 1 - 2 * span = i + 1 - span by omega, hCarry i hi]

theorem GroupsSpan.afterLevels (n : Nat) {k : Nat} {xs : List GenProp} (h : GroupsSpan A B (2 ^ k) xs) :
    GroupsSpan A B (2 ^ (k + n)) (koggeStoneLevels n k xs) := by
  induction n generalizing k xs with
  | zero => exact h
  | succ n ih =>
    have hLevel := h.doubled
    rw [← Nat.pow_succ'] at hLevel
    rw [koggeStoneLevels, ← Nat.add_assoc, Nat.add_right_comm]
    exact ih hLevel

/-- Groups that span all the bits generate the carries. -/
theorem GroupsSpan.fst_getD {span : Nat} {xs : List GenProp} (h : GroupsSpan A B span xs) (hAll : N ≤ span) {i : Nat}
    (hi : i < N) : (xs.getD i (false, false)).1 = BitVec.carry (i + 1) A B false := by
  obtain ⟨-, hCarry⟩ := h
  rw [← hCarry i hi, Nat.sub_eq_zero_of_le (by omega), BitVec.carry_zero, groupCarry_false]

theorem koggeStoneAdd_eq_addValue (A B : BitVec N) : koggeStoneAdd A B = addValue A B := by
  have hSpan := (groupsSpan_one A B).afterLevels (levelsFor N N) (k := 0)
  rw [Nat.zero_add] at hSpan
  exact addByGroups_eq_addValue A B fun _ hi => hSpan.fst_getD (le_two_pow_levelsFor N) hi

end Sys2Proof.Machine
end

section
/-! PROOF. ADD (44_add.md R160 to R164): what the five commands write, the carry from the top bits, and that it may be
computed on two limbs and by the prefix adders. -/

namespace Sys2Proof.Machine

open Sys2Proof.Claims (addForms numA numB okNext)

theorem complete_addOutcome (N : Nat) (s : State) : s.complete (addOutcome N s.aL s.bL) =
    okNext s ((numA N s + numB N s) % 2 ^ N) 0 (decide (2 ^ N ≤ numA N s + numB N s)) := by
  rw [addOutcome, State.complete_okOf, addValue_lo_toNat, addValue_hi, addValue_cf, carryOut, operand_toNat,
    operand_toNat, BitVec.ofNat_eq_ofNat, BitVec.toNat_zero, numA, numB]

theorem addForms_eq_formsOf : addForms = formsOf .add := rfl

/-- A sum of high limbs that carried is at most 2^h - 2, so the low limbs' carry does not make it carry again
(44_add.md R162). -/
theorem not_both_carries_of_hiLimbs {h : Nat} (A B A' B' : BitVec h) :
    ¬ (carryOut A B = true ∧ carryOut (addValue A B).lo (bitValue h (carryOut A' B')) = true) := by
  rintro ⟨hFirst, hSecond⟩
  have hA := A.isLt
  have hB := B.isLt
  have hBit := (carryOut A' B').toNat_le
  rw [carryOut_eq_true] at hFirst
  rw [carryOut_eq_true, bitValue_carryOut_toNat, addValue_lo_toNat, Nat.mod_eq_sub_mod hFirst,
    Nat.mod_eq_of_lt (by omega)] at hSecond
  omega

/-- Settles O19: ADD completes with the sum and the carry at every width. -/
theorem addWritesSumAndCarry : Obligations.AddWritesSumAndCarry := by
  unfold Obligations.AddWritesSumAndCarry
  rw [addForms_eq_formsOf]
  exact decode_exec_of_mem_formsOf .add complete_addOutcome

/-- Settles O42: the carry out of the top bit is fixed by its two operand bits and its sum bit. -/
theorem carryFollowsFromTopBits : Obligations.CarryFollowsFromTopBits := by
  unfold Obligations.CarryFollowsFromTopBits
  intro N A B hN
  rw [addValue_cf, carryOut_eq_carryFromTopBits A B hN]
  refine ⟨rfl, fun hA hB => ?_, prohibitedCarry_ne_carryFromTopBits_iff _ _ _⟩
  rw [hA, hB, carryFromTopBits_true_true]

/-- Settles O43: the low limbs' carry has the weight of the high limbs, whose sum carries at most once. -/
theorem addFromLimbsIsAdd : Obligations.AddFromLimbsIsAdd := by
  unfold Obligations.AddFromLimbsIsAdd
  intro h A B
  exact ⟨addLimbs_eq_addValue A B, not_both_carries_of_hiLimbs (hiLimb A) (hiLimb B) (loLimb A) (loLimb B)⟩

/-- Settles O50: a prefix, by whatever tree, generates the carry out of its top bit. -/
theorem prefixAddersAdd : Obligations.PrefixAddersAdd := by
  unfold Obligations.PrefixAddersAdd
  intro N A B
  exact ⟨prefixAdd_eq_addValue A B, koggeStoneAdd_eq_addValue A B⟩

end Sys2Proof.Machine
end

section
/-! PROOF. SUB (45_sub.md R170 to R172): what the five commands write, that the borrow is CMP's and not a function of the
adder's carry, and that SUB may be computed by adding the two's complement. -/

namespace Sys2Proof.Machine

open Sys2Proof.Claims (subForms numA numB okNext)

theorem complete_subOutcome (N : Nat) (s : State) : s.complete (subOutcome N s.aL s.bL) =
    okNext s ((numA N s + 2 ^ N - numB N s) % 2 ^ N) 0 (decide (numA N s < numB N s)) := by
  rw [subOutcome, State.complete_okOf, subValue_lo_toNat, subValue_hi, subValue_cf, borrow, operand_toNat,
    operand_toNat, BitVec.ofNat_eq_ofNat, BitVec.toNat_zero, numA, numB]

theorem subForms_eq_formsOf : subForms = formsOf .sub := rfl

/-- NOT, then ADD of 1, is the two's complement (45_sub.md R172). -/
theorem addValue_bitNot_one_lo {N : Nat} (B : BitVec N) : (addValue (bitNot B).lo 1).lo = -B := by
  rw [addValue_lo_eq_add, bitNot, plainResult_lo, BitVec.neg_eq_not_add, BitVec.ofNat_eq_ofNat]

/-- SUB leaves the unsigned comparison in CF, not a carry of its adder (45_sub.md R171). -/
theorem complete_sub_cf (n : Width) (s : State) : (s.complete (opOutcome .sub n.bits s.aL s.bL)).cf =
    borrow (operand n.bits s.aL) (operand n.bits s.bL) := rfl

theorem complete_cmp_cf (n : Width) (s : State) : (s.complete (opOutcome .cmp n.bits s.aL s.bL)).cf =
    borrow (operand n.bits s.aL) (operand n.bits s.bL) := rfl

theorem borrow_zero {N : Nat} (A : BitVec N) : borrow A 0 = false := by
  simp [borrow]

/-- The two's complement of 0 is 0, and adding 0 does not carry (45_sub.md R171). -/
theorem addValue_neg_zero_cf {N : Nat} (A : BitVec N) : (addValue A (-0)).cf = false := by
  simp [carryOut, A.isLt]

theorem operand_eq_zero_of_numB_eq_zero {N : Nat} {s : State} (hB : numB N s = 0) : operand N s.bL = 0 := by
  apply BitVec.eq_of_toNat_eq
  rw [operand_toNat, BitVec.ofNat_eq_ofNat, BitVec.toNat_zero]
  exact hB

/-- Settles O20: SUB completes with the difference and the borrow at every width. -/
theorem subWritesDifferenceAndBorrow : Obligations.SubWritesDifferenceAndBorrow := by
  unfold Obligations.SubWritesDifferenceAndBorrow
  rw [subForms_eq_formsOf]
  exact decode_exec_of_mem_formsOf .sub complete_subOutcome

/-- Settles O44: A plus the two's complement of B is the difference, and every step may be taken from limbs. -/
theorem subByNegationIsSub : Obligations.SubByNegationIsSub := by
  unfold Obligations.SubByNegationIsSub
  exact ⟨fun _ A B => subRef_eq_subValue A B, fun _ A B => subLimbs_eq_subValue A B⟩

/-- Settles O45: both commands write the borrow; at B = 0 neither the borrow nor the carry of the negation is set. -/
theorem borrowOfSubIsBorrowOfCmp : Obligations.BorrowOfSubIsBorrowOfCmp := by
  unfold Obligations.BorrowOfSubIsBorrowOfCmp
  intro n s
  refine ⟨_, _, exec_instrOf .sub n s, exec_instrOf .cmp n s,
    (complete_sub_cf n s).trans (complete_cmp_cf n s).symm, fun hB => ?_⟩
  have hOperand := operand_eq_zero_of_numB_eq_zero hB
  constructor
  · rw [complete_sub_cf, hOperand, borrow_zero]
  · rw [addValue_bitNot_one_lo, hOperand, addValue_neg_zero_cf, Bool.not_false]

end Sys2Proof.Machine
end

section
/-! SUPPORT. A word as the sum of its bits: the low `k + 1` bits are the low `k` bits and bit `k` at its weight. -/

namespace Sys2Proof.Machine

variable {N : Nat}

theorem toNat_mod_two_pow_succ (v : BitVec N) (k : Nat) :
    v.toNat % 2 ^ (k + 1) = v.toNat % 2 ^ k + 2 ^ k * (v.getLsbD k).toNat := by
  rw [Nat.mod_pow_succ, ← Nat.toNat_testBit, BitVec.testBit_toNat]

end Sys2Proof.Machine
end

section
/-! SUPPORT. The radix-4 Booth multiplier (46_mul.md R183). A digit counts the top bit of its group as -2, and the next
digit counts the same bit again as 1, four times as heavy, so the bit comes to its own weight. -/

namespace Sys2Proof.Machine

variable {N : Nat} (A B : BitVec N)

theorem bitInt_eq_toNat (i : Nat) : bitInt B i = (B.getLsbD i).toNat := by
  cases hBit : B.getLsbD i <;> simp [bitInt, hBit]

theorem bitInt_eq_zero_or_one (i : Nat) : bitInt B i = 0 ∨ bitInt B i = 1 := by
  cases hBit : B.getLsbD i <;> simp [bitInt, hBit]

theorem bitInt_of_le {i : Nat} (hi : N ≤ i) : bitInt B i = 0 := by
  rw [bitInt, BitVec.getLsbD_of_ge B i hi]
  rfl

/-- The bit of B below digit `j`, which the digit before counts as -2; below bit 0 stands a 0. -/
def bitBelow (j : Nat) : Int := if j = 0 then 0 else bitInt B (2 * j - 1)

theorem boothDigit_eq (j : Nat) : boothDigit B j = -2 * bitInt B (2 * j + 1) + bitInt B (2 * j) + bitBelow B j := rfl

theorem bitBelow_succ (j : Nat) : bitBelow B (j + 1) = bitInt B (2 * j + 1) := rfl

theorem bitBelow_eq_zero_or_one (j : Nat) : bitBelow B j = 0 ∨ bitBelow B j = 1 := by
  cases j with
  | zero => exact .inl rfl
  | succ j => exact bitInt_eq_zero_or_one B (2 * j + 1)

theorem boothDigit_bounds (j : Nat) : -2 ≤ boothDigit B j ∧ boothDigit B j ≤ 2 := by
  have hTop := bitInt_eq_zero_or_one B (2 * j + 1)
  have hLow := bitInt_eq_zero_or_one B (2 * j)
  have hBelow := bitBelow_eq_zero_or_one B j
  rw [boothDigit_eq]
  omega

/-- One digit takes in two bits of B. -/
theorem toNat_mod_four_pow_succ (n : Nat) : ((B.toNat % 4 ^ (n + 1) : Nat) : Int) =
    (B.toNat % 4 ^ n : Nat) + 4 ^ n * (bitInt B (2 * n) + 2 * bitInt B (2 * n + 1)) := by
  have hFour (k : Nat) : 4 ^ k = 2 ^ (2 * k) := (Nat.pow_mul 2 2 k).symm
  rw [hFour, hFour, Nat.mul_add, toNat_mod_two_pow_succ B (2 * n + 1), toNat_mod_two_pow_succ B (2 * n),
    bitInt_eq_toNat, bitInt_eq_toNat]
  push_cast
  rw [pow_succ, pow_mul]
  ring

/-- The first `n` partial products are those of the low `2n` bits of B, but for the top one of these, which stands to be
counted once more by the next digit. -/
theorem boothSum_eq (n : Nat) :
    boothSum A B n = A.toNat * ((B.toNat % 4 ^ n : Nat) - 4 ^ n * bitBelow B n) := by
  induction n with
  | zero => simp [boothSum, bitBelow, Nat.mod_one]
  | succ n ih =>
    rw [boothSum, ih, toNat_mod_four_pow_succ, boothDigit_eq, bitBelow_succ]
    ring

/-- The digits of the multiplier reach beyond bit N - 1, so nothing stands to be counted. -/
theorem boothSum_eq_product : boothSum A B ((N + 2) / 2) = (A.toNat * B.toNat : Nat) := by
  obtain ⟨m, hm⟩ : ∃ m, (N + 2) / 2 = m + 1 := ⟨N / 2, Nat.add_div_right N (by decide)⟩
  have hFits : B.toNat < 4 ^ (m + 1) :=
    calc B.toNat < 2 ^ N := B.isLt
      _ ≤ 2 ^ (2 * (m + 1)) := Nat.pow_le_pow_right (by decide) (by omega)
      _ = 4 ^ (m + 1) := Nat.pow_mul 2 2 (m + 1)
  rw [hm, boothSum_eq, bitBelow_succ, bitInt_of_le B (by omega), Nat.mod_eq_of_lt hFits]
  push_cast
  ring

theorem boothMul_eq_mulValue : boothMul A B = mulValue A B := by
  have hPow : (2 : Int) ^ N = (2 ^ N : Nat) := by norm_cast
  rw [boothMul, mulValue, boothSum_eq_product, hPow, ← Int.natCast_mod, ← Int.natCast_div, BitVec.ofInt_natCast,
    BitVec.ofInt_natCast]

end Sys2Proof.Machine
end

section
/-! SUPPORT. The Wallace tree (46_mul.md R183). A layer of 3:2 counters keeps the sum of the rows modulo 2^M and leaves
fewer rows, so the last two rows add up to the sum of the partial products. -/

namespace Sys2Proof.Machine

/-- A 3:2 counter counts the ones among three bits. -/
theorem fullAdder_count (a b c : Bool) :
    (a ^^ b ^^ c).toNat + 2 * (a && b || a && c || b && c).toNat = a.toNat + b.toNat + c.toNat := by
  revert a b c
  decide

section Layers

variable {M : Nat}

/-- Counters side by side keep the sum of their low `k` bits, each carry at twice its place. -/
theorem counters_mod_two_pow (x y z : BitVec M) (k : Nat) :
    (x ^^^ y ^^^ z).toNat % 2 ^ k + 2 * ((x &&& y ||| x &&& z ||| y &&& z).toNat % 2 ^ k) =
      x.toNat % 2 ^ k + y.toNat % 2 ^ k + z.toNat % 2 ^ k := by
  induction k with
  | zero => simp [Nat.mod_one]
  | succ k ih =>
    have hCount := fullAdder_count (x.getLsbD k) (y.getLsbD k) (z.getLsbD k)
    simp only [toNat_mod_two_pow_succ, BitVec.getLsbD_xor, BitVec.getLsbD_or, BitVec.getLsbD_and]
    linear_combination ih + 2 ^ k * hCount

/-- Three rows become a sum row and a carry row with the same sum. -/
theorem sumRow_add_carryRow (x y z : BitVec M) :
    (x ^^^ y ^^^ z) + ((x &&& y ||| x &&& z ||| y &&& z) <<< 1) = x + (y + z) := by
  have hCount := counters_mod_two_pow x y z M
  simp only [Nat.mod_eq_of_lt (BitVec.isLt _)] at hCount
  apply BitVec.eq_of_toNat_eq
  rw [BitVec.toNat_add, BitVec.toNat_shiftLeft, Nat.shiftLeft_eq, Nat.add_mod_mod, Nat.pow_one, Nat.mul_comm, hCount,
    BitVec.toNat_add, BitVec.toNat_add, Nat.add_mod_mod, Nat.add_assoc]

theorem counterLayer_sum (rows : List (BitVec M)) : (counterLayer rows).sum = rows.sum := by
  induction rows using counterLayer.induct with
  | case1 x y z rest ih =>
    rw [counterLayer, List.sum_cons, List.sum_cons, ← add_assoc, sumRow_add_carryRow, ih]
    simp only [List.sum_cons, add_assoc]
  | case2 rows hFew =>
    rw [counterLayer]
    exact hFew

theorem length_counterLayer_le (rows : List (BitVec M)) : (counterLayer rows).length ≤ rows.length := by
  induction rows using counterLayer.induct with
  | case1 x y z rest ih =>
    simp only [counterLayer, List.length_cons]
    omega
  | case2 rows hFew =>
    rw [counterLayer]
    exact hFew

theorem length_counterLayer_lt : ∀ {rows : List (BitVec M)}, 2 < rows.length →
    (counterLayer rows).length < rows.length
  | x :: y :: z :: rest, _ => by
    have := length_counterLayer_le rest
    simp only [counterLayer, List.length_cons]
    omega

theorem reduceRows_sum (fuel : Nat) (rows : List (BitVec M)) : (reduceRows fuel rows).sum = rows.sum := by
  induction fuel generalizing rows with
  | zero => rfl
  | succ fuel ih =>
    rw [reduceRows]
    split_ifs
    · rfl
    · rw [ih, counterLayer_sum]

/-- Each layer takes away a row at least, so as many layers as there are rows are enough. -/
theorem length_reduceRows_le_two (fuel : Nat) (rows : List (BitVec M)) (hFuel : rows.length ≤ fuel + 2) :
    (reduceRows fuel rows).length ≤ 2 := by
  induction fuel generalizing rows with
  | zero => exact hFuel
  | succ fuel ih =>
    rw [reduceRows]
    split_ifs with hFew
    · exact hFew
    · have hLess := length_counterLayer_lt (not_le.mp hFew)
      exact ih _ (by omega)

/-- Rows that are not there count as 0 at the final adder. -/
theorem getD_zero_add_getD_one : ∀ {rows : List (BitVec M)}, rows.length ≤ 2 →
    rows.getD 0 0 + rows.getD 1 0 = rows.sum
  | [], _ => by simp
  | [x], _ => by simp
  | [x, y], _ => by simp

end Layers

variable {N : Nat} (A B : BitVec N)

/-- Partial product `i`: A at the weight of bit `i` of B, where that bit is 1. -/
def partialRow (i : Nat) : BitVec (N + N) := if B.getLsbD i then A.setWidth (N + N) <<< i else 0

theorem partialRows_eq_map : partialRows A B = (List.range N).map (partialRow A B) := rfl

theorem partialRow_eq_ofNat (i : Nat) :
    partialRow A B i = BitVec.ofNat (N + N) (A.toNat * (2 ^ i * (B.getLsbD i).toNat)) := by
  apply BitVec.eq_of_toNat_eq
  cases hBit : B.getLsbD i with
  | false => simp [partialRow, hBit]
  | true => simp [partialRow, hBit, Nat.shiftLeft_eq]

/-- The first `n` rows are the partial products of the low `n` bits of B. -/
theorem sum_partialRow (n : Nat) :
    ((List.range n).map (partialRow A B)).sum = BitVec.ofNat (N + N) (A.toNat * (B.toNat % 2 ^ n)) := by
  induction n with
  | zero => simp [Nat.mod_one]
  | succ n ih =>
    rw [List.range_succ, List.map_append, List.sum_append, ih, toNat_mod_two_pow_succ, Nat.mul_add, BitVec.ofNat_add,
      ← partialRow_eq_ofNat]
    simp

theorem toNat_sum_partialRows : (partialRows A B).sum.toNat = A.toNat * B.toNat := by
  have hFits : A.toNat * B.toNat < 2 ^ (N + N) := Nat.pow_add 2 N N ▸ Nat.mul_lt_mul'' A.isLt B.isLt
  rw [partialRows_eq_map, sum_partialRow, Nat.mod_eq_of_lt B.isLt, BitVec.toNat_ofNat, Nat.mod_eq_of_lt hFits]

theorem length_wallaceRows_le_two : (reduceRows N (partialRows A B)).length ≤ 2 :=
  length_reduceRows_le_two N _ (by simp [partialRows_eq_map])

theorem wallaceMul_eq_mulValue : wallaceMul A B = mulValue A B := by
  unfold wallaceMul
  extract_lets rows p
  have hProduct : p.toNat = A.toNat * B.toNat := by
    rw [← toNat_sum_partialRows, ← reduceRows_sum N, ← getD_zero_add_getD_one (length_wallaceRows_le_two A B),
      ← addValue_lo_eq_add, ← prefixAdd_eq_addValue]
  refine eq_mulValue_of_product (hProduct.symm.trans ?_) rfl
  change p.toNat = (p.setWidth N).toNat + 2 ^ N * (hiLimb p).toNat
  rw [BitVec.toNat_setWidth, ← loLimb_toNat, Nat.add_comm (loLimb p).toNat, ← toNat_eq_limbs]

end Sys2Proof.Machine
end

section
/-! SUPPORT. MUL and ADD over DIVMOD's results (44_add.md R160, 46_mul.md R180, 47_div.md R190): the quotient times the
divisor is at most the dividend, so it fits the width, and the remainder is what it lacks. -/

namespace Sys2Proof.Machine

variable {N : Nat} (A B : BitVec N)

theorem divmodValue_lo_mul_lt : (divmodValue A B).lo.toNat * B.toNat < 2 ^ N := by
  rw [divmodValue_lo_toNat]
  exact (Nat.div_mul_le_self A.toNat B.toNat).trans_lt A.isLt

theorem okOf_mulValue_divmodValue_lo : okOf (mulValue (divmodValue A B).lo B) =
    .ok (zext128 (mulValue (divmodValue A B).lo B).lo) 0 false := by
  rw [okOf, zext128_eq_ofNat (mulValue _ _).hi, mulValue_hi_toNat, Nat.div_eq_of_lt (divmodValue_lo_mul_lt A B),
    mulValue_cf, BitVec.ofNat_eq_ofNat]

theorem mulValue_divmodValue_lo_add_hi :
    (mulValue (divmodValue A B).lo B).lo.toNat + (divmodValue A B).hi.toNat = A.toNat := by
  rw [mulValue_lo_toNat, Nat.mod_eq_of_lt (divmodValue_lo_mul_lt A B), divmodValue_lo_toNat, divmodValue_hi_toNat,
    Nat.div_add_mod']

theorem okOf_addValue_mulValue_divmodValue :
    okOf (addValue (mulValue (divmodValue A B).lo B).lo (divmodValue A B).hi) =
      .ok (BitVec.ofNat 128 A.toNat) 0 false := by
  rw [okOf_addValue, mulValue_divmodValue_lo_add_hi, Nat.mod_eq_of_lt A.isLt, decide_eq_false (not_le.mpr A.isLt)]

theorem borrow_divmodValue_hi {B : BitVec N} (hB : B.toNat ≠ 0) : borrow (divmodValue A B).hi B = true := by
  rw [borrow_eq_true, divmodValue_hi_toNat]
  exact Nat.mod_lt _ (Nat.pos_of_ne_zero hB)

variable (n : Width) (v w : BitVec n.bits) (a b : Bus)

theorem commandOutcome_divmod {b : Bus} (hB : operand n.bits b ≠ 0) : commandOutcome (wordOf .divmod n) a b =
    .ok (zext128 (divmodValue (operand n.bits a) (operand n.bits b)).lo)
      (zext128 (divmodValue (operand n.bits a) (operand n.bits b)).hi) false := by
  rw [commandOutcome_wordOf, opOutcome, divmodOutcome, if_neg hB, okOf, divmodValue_cf]

/-- Commands whose operand is a result of the same width read back that result (30_encoding.md R84). -/
theorem commandOutcome_mul_zext128 :
    commandOutcome (wordOf .mul n) (zext128 v) b = okOf (mulValue v (operand n.bits b)) := by
  rw [commandOutcome_wordOf, opOutcome, mulOutcome, operand_zext128 v n.bits_le_bus]

theorem commandOutcome_add_zext128_zext128 :
    commandOutcome (wordOf .add n) (zext128 v) (zext128 w) = okOf (addValue v w) := by
  rw [commandOutcome_wordOf, opOutcome, addOutcome, operand_zext128 v n.bits_le_bus, operand_zext128 w n.bits_le_bus]

end Sys2Proof.Machine
end

section
/-! PROOF. MUL (46_mul.md R180 to R183): what the five commands write, that it may be computed on two limbs, by Booth
digits and by the Wallace tree, and that it undoes DIVMOD. -/

namespace Sys2Proof.Machine

open Sys2Proof.Claims (mulForms numA numB okNext)

theorem complete_mulOutcome (N : Nat) (s : State) : s.complete (mulOutcome N s.aL s.bL) =
    okNext s (numA N s * numB N s % 2 ^ N) (numA N s * numB N s / 2 ^ N) false := by
  rw [mulOutcome, State.complete_okOf, mulValue_lo_toNat, mulValue_hi_toNat, mulValue_cf, operand_toNat, operand_toNat,
    numA, numB]

theorem mulForms_eq_formsOf : mulForms = formsOf .mul := rfl

/-- Settles O21: MUL completes with both halves of the product at every width. -/
theorem mulWritesBothProductHalves : Obligations.MulWritesBothProductHalves := by
  unfold Obligations.MulWritesBothProductHalves
  rw [mulForms_eq_formsOf]
  exact decode_exec_of_mem_formsOf .mul complete_mulOutcome

/-- Settles O46: the four partial products at their places add up to the exact product. -/
theorem mulFromLimbsIsMul : Obligations.MulFromLimbsIsMul := by
  unfold Obligations.MulFromLimbsIsMul
  intro h A B
  exact mulLimbs_eq_mulValue A B

/-- Settles O52: the digits, each at its power of 4, add up to B. -/
theorem boothMultiplierMultiplies : Obligations.BoothMultiplierMultiplies := by
  unfold Obligations.BoothMultiplierMultiplies
  intro N A B
  exact ⟨boothMul_eq_mulValue A B, boothDigit_bounds B⟩

/-- Settles O53: every layer keeps the sum of the partial products, and takes rows away until two are left. -/
theorem wallaceTreeMultiplies : Obligations.WallaceTreeMultiplies := by
  unfold Obligations.WallaceTreeMultiplies
  intro N A B
  exact ⟨wallaceMul_eq_mulValue A B, length_wallaceRows_le_two A B⟩

/-- Settles O56: quotient times divisor plus remainder is the dividend, and none of the results leaves the width. -/
theorem divisionIsUndoneByMulAndAdd : Obligations.DivisionIsUndoneByMulAndAdd := by
  unfold Obligations.DivisionIsUndoneByMulAndAdd
  intro n a b hB
  rw [← operand_toNat] at hB ⊢
  have hNonzero : operand n.bits b ≠ 0 := fun hZero => hB (by rw [hZero, BitVec.ofNat_eq_ofNat, BitVec.toNat_zero])
  have hLess := commandOutcome_cmp n (zext128 (divmodValue (operand n.bits a) (operand n.bits b)).hi) b
  rw [operand_zext128 _ n.bits_le_bus, borrow_divmodValue_hi _ hB] at hLess
  exact ⟨_, _, _, _, commandOutcome_divmod n a hNonzero,
    (commandOutcome_mul_zext128 n _ b).trans (okOf_mulValue_divmodValue_lo _ _),
    (commandOutcome_add_zext128_zext128 n _ _).trans (okOf_addValue_mulValue_divmodValue _ _), hLess⟩

end Sys2Proof.Machine
end

section
/-! SUPPORT. The iteration count of restoring division (47_div.md R193): s + 1 iterations for the s doublings of the
normalisation, the fewest with A below B times 2^(s + 1). -/

namespace Sys2Proof.Machine

variable {N : Nat} {le : BitVec N → BitVec N → Bool} {minus : BitVec N → BitVec N → BitVec N}
  {double halve setLow : BitVec N → BitVec N}

/-- Normalisation doubles only to a divisor of at most A, so where it has doubled at all, that is what it leaves. -/
theorem normalise_eq_zero_or_le (hPrim : DivisionPrimitives le minus double halve setLow) (A : BitVec N) (fuel : Nat)
    (d : BitVec N) (s : Nat) (hDoubled : s = 0 ∨ d.toNat ≤ A.toNat) :
    (normalise le double A fuel d s).2 = 0 ∨ (normalise le double A fuel d s).1.toNat ≤ A.toNat := by
  induction fuel generalizing d s with
  | zero => exact hDoubled
  | succ fuel ih =>
    rw [normalise]
    split
    next hStep =>
      rw [Bool.and_eq_true, hPrim.le_eq_true_iff] at hStep
      exact ih (double d) (s + 1) (.inr hStep.2)
    next => exact hDoubled

/-- The last doubled divisor fits the width and, if there is one, is at most A; the next one would be above A. -/
theorem divIterations_spec (A B : BitVec N) (hB : B ≠ 0) : ∃ s, divIterations A B = s + 1 ∧
    B.toNat * 2 ^ s < 2 ^ N ∧ A.toNat < B.toNat * 2 ^ (s + 1) ∧ (s = 0 ∨ B.toNat * 2 ^ s ≤ A.toNat) := by
  obtain ⟨hDivisor, hAbove⟩ := normalise_spec divisionPrimitives_ref A B hB N B 0 (by simp) (by simp)
  have hBelow := normalise_eq_zero_or_le divisionPrimitives_ref A N B 0 (.inl rfl)
  have hFits := (normalise leByCmp (fun v => (shlValue v 1).lo) A N B 0).1.isLt
  rw [hDivisor] at hAbove hBelow hFits
  refine ⟨_, rfl, hFits, ?_, hBelow⟩
  rw [Nat.pow_succ]
  linarith

theorem divIterations_le (A B : BitVec N) (hB : B ≠ 0) : divIterations A B ≤ N := by
  obtain ⟨s, hCount, hFits, -⟩ := divIterations_spec A B hB
  have hPos : 0 < B.toNat := BitVec.toNat_pos_of_ne_zero hB
  have hLt : 2 ^ s < 2 ^ N := (Nat.le_mul_of_pos_left _ hPos).trans_lt hFits
  rw [Nat.pow_lt_pow_iff_right (by decide)] at hLt
  omega

/-- N - 1 doublings fit the width only from B = 1, and reach 2^(N - 1). -/
theorem divIterations_eq_width_iff (hN : 2 ≤ N) (A B : BitVec N) (hB : B ≠ 0) :
    divIterations A B = N ↔ B.toNat = 1 ∧ 2 ^ (N - 1) ≤ A.toNat := by
  have hAtMost := divIterations_le A B hB
  obtain ⟨s, hCount, hFits, hAbove, hBelow⟩ := divIterations_spec A B hB
  have hPos : 0 < B.toNat := BitVec.toNat_pos_of_ne_zero hB
  rw [hCount] at hAtMost ⊢
  constructor
  · rintro rfl
    have hOne : B.toNat = 1 := by
      rw [Nat.pow_succ, Nat.mul_comm, Nat.mul_lt_mul_left (Nat.two_pow_pos s)] at hFits
      omega
    obtain rfl | hLe := hBelow
    · omega
    · exact ⟨hOne, by simpa [hOne] using hLe⟩
  · rintro ⟨hOne, hTop⟩
    rw [hOne, Nat.one_mul] at hAbove
    have hLt := (Nat.pow_lt_pow_iff_right (by decide)).mp (hTop.trans_lt hAbove)
    omega

end Sys2Proof.Machine
end

section
/-! PROOF. DIVMOD (47_div.md R190 to R194): what the five commands write, that restoring long division gives it, at one
width and from two limbs, and in how many iterations. -/

namespace Sys2Proof.Machine

open Sys2Proof.Claims (divmodForms numA numB okNext errNext)

theorem operand_eq_zero_iff_numB_eq_zero {N : Nat} {s : State} : operand N s.bL = 0 ↔ numB N s = 0 := by
  refine ⟨fun hZero => ?_, operand_eq_zero_of_numB_eq_zero⟩
  rw [numB, ← operand_toNat, hZero, BitVec.ofNat_eq_ofNat, BitVec.toNat_zero]

theorem complete_okOf_divmodValue (N : Nat) (s : State) :
    s.complete (okOf (divmodValue (operand N s.aL) (operand N s.bL))) =
      okNext s (numA N s / numB N s) (numA N s - numA N s / numB N s * numB N s) false := by
  rw [← Nat.mod_eq_sub_div_mul, State.complete_okOf, divmodValue_lo_toNat, divmodValue_hi_toNat, divmodValue_cf,
    operand_toNat, operand_toNat, numA, numB]

/-- A zero divisor writes ERR alone, with the code of DZ, whatever A is (47_div.md R191, 60_exceptions.md R200). -/
theorem complete_divmodOutcome (N : Nat) (s : State) : s.complete (divmodOutcome N s.aL s.bL) =
    if numB N s = 0 then errNext s 1
    else okNext s (numA N s / numB N s) (numA N s - numA N s / numB N s * numB N s) false := by
  simp only [divmodOutcome, operand_eq_zero_iff_numB_eq_zero]
  split
  next => rfl
  next => exact complete_okOf_divmodValue N s

theorem divmodForms_eq_formsOf : divmodForms = formsOf .divmod := rfl

/-- Settles O22: DIVMOD completes with quotient and remainder, and with DZ for a zero divisor, at every width. -/
theorem divmodWritesQuotientAndRemainder : Obligations.DivmodWritesQuotientAndRemainder := by
  unfold Obligations.DivmodWritesQuotientAndRemainder
  rw [divmodForms_eq_formsOf]
  intro f hf
  obtain ⟨hDecode, hExec⟩ := decode_exec_of_mem_formsOf .divmod complete_divmodOutcome f hf
  refine ⟨hDecode, fun s => ⟨fun hNonzero => ?_, fun hZero => ?_⟩⟩
  · rw [hExec, if_neg hNonzero]
  · rw [hExec, if_pos hZero]

/-- Settles O47: the loop keeps quotient times divisor plus remainder, and the limbs' steps are the whole width's. -/
theorem restoringDivisionDivides : Obligations.RestoringDivisionDivides := by
  unfold Obligations.RestoringDivisionDivides
  exact ⟨fun _ => divmodRef_eq_divmodValue, fun _ => divmodLimbs_eq_divmodValue⟩

/-- Settles O48: the doubled divisors fit the width and, but for B itself, are at most A. -/
theorem divisionTakesOneToNIterations : Obligations.DivisionTakesOneToNIterations := by
  unfold Obligations.DivisionTakesOneToNIterations
  intro N A B hN hB
  have hOne : B = 1 ↔ B.toNat = 1 := by
    rw [← BitVec.toNat_inj, BitVec.ofNat_eq_ofNat, BitVec.toNat_ofNat, Nat.one_mod_two_pow (by omega)]
  rw [hOne]
  exact ⟨Nat.le_add_left _ _, divIterations_le A B hB, divIterations_eq_width_iff hN A B hB⟩

end Sys2Proof.Machine
end

section
/-! SUPPORT. The fields of a command word as digits of its number, and `legal` on the number (30_encoding.md R80, R83). -/

namespace Sys2Proof

open Claims (legalNumber)

theorem fieldRsv1_toNat (w : CmdWord) : (fieldRsv1 w).toNat = w.toNat / 256 := by
  rw [fieldRsv1, BitVec.extractLsb'_toNat, Nat.shiftRight_eq_div_pow]
  exact Nat.mod_eq_of_lt (Nat.div_lt_of_lt_mul w.isLt)

theorem fieldRsv0_toNat (w : CmdWord) : (fieldRsv0 w).toNat = w.toNat / 8 % 2 := by
  rw [fieldRsv0, BitVec.extractLsb'_toNat, Nat.shiftRight_eq_div_pow]

theorem fieldOp_toNat (w : CmdWord) : (fieldOp w).toNat = w.toNat / 16 % 16 := by
  rw [fieldOp, BitVec.extractLsb'_toNat, Nat.shiftRight_eq_div_pow]

theorem fieldW_toNat (w : CmdWord) : (fieldW w).toNat = w.toNat % 8 := by
  rw [fieldW, BitVec.extractLsb'_toNat, Nat.shiftRight_zero]

theorem legal_eq_true_iff_legalNumber (w : CmdWord) : legal w = true ↔ legalNumber w.toNat := by
  rw [legal_eq_true_iff, ← BitVec.toNat_inj, ← BitVec.toNat_inj, fieldRsv1_toNat, fieldRsv0_toNat, fieldOp_toNat,
    fieldW_toNat]
  rfl

theorem exists_decode_eq_error_iff (w : CmdWord) : (∃ e, decode w = .error e) ↔ legal w = false := by
  rw [legal_eq_isSome_decode?, decode?]
  cases decode w with
  | ok i => simp
  | error e => simp

end Sys2Proof
end

section
/-! PROOF. The two errors of the core (60_exceptions.md R201, R202): every word that fails `legal` completes with ILL, and
of the legal commands only DIVMOD by zero reports an error, DZ. -/

namespace Sys2Proof.Machine

open Sys2Proof.Claims (legalNumber numB errNext)

/-- An illegal word writes ERR alone, with the code of ILL, whatever the operands are (60_exceptions.md R200, R202). -/
theorem completionEdge_of_not_legal {s : State} (h : legal s.cmdL = false) : completionEdge s = .next (errNext s 2) := by
  rw [completionEdge_eq, commandOutcome_of_not_legal h]
  rfl

/-- Settles O8: `legal` reads the digits of the word's number, and the decoder accepts what `legal` accepts. -/
theorem decoderRefusesExactlyTheIllegalWords : Obligations.DecoderRefusesExactlyTheIllegalWords := by
  unfold Obligations.DecoderRefusesExactlyTheIllegalWords
  have hLegal (w : CmdWord) : legal w = false ↔ ¬ legalNumber w.toNat := by
    rw [← legal_eq_true_iff_legalNumber, Bool.not_eq_true]
  exact ⟨fun w => ⟨legal_eq_true_iff_legalNumber w, (exists_decode_eq_error_iff w).trans (hLegal w)⟩,
    fun s hNot => completionEdge_of_not_legal ((hLegal s.cmdL).mpr hNot)⟩

/-- DZ is reported for a zero divisor of DIVMOD and for nothing else (60_exceptions.md R201). -/
theorem complete_opOutcome_err (op : Op) (N : Nat) (s : State) :
    (s.complete (opOutcome op N s.aL s.bL)).err = if op = .divmod ∧ numB N s = 0 then 1 else 0 := by
  cases op with
  | divmod =>
    rw [opOutcome, complete_divmodOutcome]
    by_cases hZero : numB N s = 0
    · rw [if_pos hZero, if_pos ⟨rfl, hZero⟩]
      rfl
    · rw [if_neg hZero, if_neg fun hDz => hZero hDz.2]
      rfl
  | _ => exact (if_neg (by simp)).symm

/-- Settles O23: a command completes with the outcome of its operation at its width, whose error is known. -/
theorem onlyDivmodByZeroReportsAnError : Obligations.OnlyDivmodByZeroReportsAnError := by
  unfold Obligations.OnlyDivmodByZeroReportsAnError
  intro i s
  refine ⟨_, everyCommandIsItsPureOutcome i s, ?_⟩
  rw [commandOutcome_encode, complete_opOutcome_err]
  split
  next hZero => simp [hZero]
  next hOther => simp [hOther]

end Sys2Proof.Machine
end

section
/-! PROOF. While a command is in flight nothing but the count moves, so the results are those of before its accept edge
(70_reset_and_hazards.md R237, 40_engine.md R104). -/

namespace Sys2Proof.Machine

/-- A busy core that has fewer edges before it than CNT has left counts them off and keeps every other register. -/
theorem edges_busy_countDown (lat : Latency) (rest : List Inputs) {s : State} (hLive : s.live = true)
    (hBusy : s.busy = true) (hDone : s.done = false) (hRst : ∀ x ∈ rest, x.rst = false) (hLen : rest.length < s.cnt) :
    edges lat rest s = .next { s with cnt := s.cnt - rest.length, edgeNo := s.edgeNo + rest.length } := by
  induction rest generalizing s with
  | nil => rfl
  | cons x rest ih =>
    obtain ⟨hFirst, hRest⟩ := List.forall_mem_cons.mp hRst
    rw [List.length_cons] at hLen ⊢
    have hCnt : s.cnt ≠ 1 := by omega
    have hLeft : rest.length < s.tick.countDown.cnt := by simp; omega
    rw [edges_cons_next (edge_countDown hLive hFirst hBusy hCnt),
      ih (s := s.tick.countDown) hLive hBusy rfl hRest hLeft]
    simp [State.countDown, State.tick, hDone, Nat.sub_sub, Nat.add_assoc, Nat.add_comm 1]

/-- Settles O31: the accept edge sets CNT to the latency and writes no result, and the further edges only count down. -/
theorem resultsAreStaleWhileBusy : Obligations.ResultsAreStaleWhileBusy := by
  unfold Obligations.ResultsAreStaleWhileBusy
  intro lat s inp rest hLive hBusy hRst hValid hRest hLen
  have hCount := edges_busy_countDown lat rest (s := s.tick.accept lat inp) hLive rfl rfl hRest hLen
  exact ⟨_, (edges_cons_next (edge_accept hLive hRst hBusy hValid)).trans hCount, rfl, rfl, rfl, rfl, rfl, rfl, rfl⟩

end Sys2Proof.Machine
end
